-- ==== Sys2Proof/Word.lean ====
section
/-! DEFINITION. The word types of the WMC: the 32-bit bus word, the 16-bit duty value, the 64-bit timestamp and the
8-bit bus offset, with the widths of spec/00_scope.md R5. -/

namespace Sys2Proof

/-- A bus register or a command word, `XLEN = 32` bits (R5, R61). -/
abbrev Word := BitVec 32

/-- `PWM_PERIOD`, `DUTY` and the waveform counter, `PLEN = 16` bits (R5). -/
abbrev Half := BitVec 16

/-- The input `time_us` and every stored timestamp, `TLEN = 64` bits of microseconds (R5, R13). -/
abbrev Stamp := BitVec 64

/-- `bus_addr`, `ALEN = 8` bits: a byte offset into the register space (R5, R60). -/
abbrev Offset := BitVec 8

/-- One byte of the register space as a byte-addressed platform sees it (R61). -/
abbrev Byte := BitVec 8

end Sys2Proof
end

