-- ==== Sys2Proof/Config.lean ====
section
/-! DEFINITION. The parameters of spec/00_scope.md R5 that are numbers, each with the value R5 gives it; the one parameter
R5 leaves open; and the free values of spec/93_implementation_defined.md U1. -/

namespace Sys2Proof.Config

/-- `FS`, the speed "100 %", in units of 10^-6 percent (R5, R11). -/
def fullScale : Nat := 100000000

/-- `RATE_MIN`, the "minimal positive default" ramp rate, in percent per second (R5, R12). -/
def rateMin : Nat := 1

/-- The denominator `2^16 * 10^6` of the distance conversion (R14). -/
def pulseDen : Nat := 65536000000

/-- The largest value of the 32-bit counters `PCNT` and `NUDGE_CNT`, at which they saturate (R141, R235). -/
def counterMax : Nat := 4294967295

/-- `F_CLK` in hertz: OPEN in R5, "named parameter, no rule depends on it". No definition of the model reads it. -/
opaque fClkHz : Nat

/-- FREE VALUE (log entry 6): the word on `bus_rdata` when `bus_we` and `bus_re` are both asserted in one cycle, "any value"
by spec/93_implementation_defined.md U1. The argument counts the occurrences. -/
opaque freeRdata : Nat → Word

/-- FREE VALUE (log entry 6): whether the write is performed when `bus_we` and `bus_re` are both asserted in one cycle
(spec/93_implementation_defined.md U1). The argument counts the occurrences. -/
opaque freeWriteTaken : Nat → Bool

end Sys2Proof.Config
end

