-- ==== Sys2Proof/Syntax.lean ====
section
/-! DEFINITION. The nine commands of spec/30_encoding.md R94 (one constructor per row of spec/opcode_table.json) and the
refusal codes of R99. -/

namespace Sys2Proof

/-- A command. The only operand a command word carries is the direction bit `D` (R92, R93): `true` is 1, clockwise. -/
inductive Instr where
  /-- NOP, R125. -/
  | nop
  /-- MOVE, R191; `d` is the direction of the move. -/
  | move (d : Bool)
  /-- WIND, R192. -/
  | wind
  /-- UNWIND, R193. -/
  | unwind
  /-- HOLD, R230; `d` is the tow-up direction. -/
  | hold (d : Bool)
  /-- BRAKE, R173. -/
  | brake
  /-- SETTGT, R172. -/
  | settgt
  /-- SETDIR, R174; `d` is the level of the direction line. -/
  | setdir (d : Bool)
  /-- RDRST, R146. -/
  | rdrst
deriving DecidableEq, Repr

/-- The value of the field `ERRC` (R25, R99): 0 none, 1 `BUSY`, 2 `UNDEF`, 3 `RSVD`. -/
inductive ErrCode where
  /-- No refusal since reset or since the last clear. -/
  | none
  /-- A legal word written while `SEQ` is not `IDLE` (R98). -/
  | busy
  /-- An undefined opcode (R97). -/
  | undef
  /-- A reserved bit is set (R97). -/
  | rsvd
deriving DecidableEq, Repr

/-- What decoding a command word gives (R96): a command, or a refusal by name. -/
inductive Decoded where
  /-- The word is one of the legal ones. -/
  | command (i : Instr)
  /-- The word is illegal; `c` is what `refuse` records. -/
  | refused (c : ErrCode)
deriving DecidableEq, Repr

end Sys2Proof
end

