-- ==== Sys2Proof/WellFormed.lean ====
section
/-! DEFINITION. Which commands and which command words are well formed. A term of `Instr` carries at most one bit, and every
value of it has an encoding, so no term is ill formed; the checks of spec/30_encoding.md R97 are on command WORDS. -/

namespace Sys2Proof

/-- Every command is well formed: its only operand is the one-bit field `D` (R92), and both values are encodable (R94). -/
def Instr.wellFormed : Instr → Bool
  | .nop | .wind | .unwind | .brake | .settgt | .rdrst => true
  | .move _ | .hold _ | .setdir _ => true

/-- First check of R97: bits 31:9 are zero. -/
def highBitsClear (w : Word) : Bool := w.toNat / 512 == 0

/-- Second check of R97: the opcode is one of `0x00` to `0x08`. -/
def opcodeDefined (w : Word) : Bool := w.toNat % 256 ≤ 8

/-- Third check of R97: bit 8 is set only where the format is D (MOVE, HOLD, SETDIR). -/
def directionAllowed (w : Word) : Bool :=
  w.toNat / 256 % 2 == 0 || [1, 4, 7].contains (w.toNat % 256)

/-- A command word is legal when it passes the three checks of R97. -/
def legalWord (w : Word) : Bool := highBitsClear w && opcodeDefined w && directionAllowed w

end Sys2Proof
end

