-- ==== Sys2Proof/Decode.lean ====
section
/-! DEFINITION. The decoder of spec/30_encoding.md R96, total on all 2^32 words and rejecting by name, and the encoder
written from the same table (R90, R94). -/

namespace Sys2Proof

/-- Bits 31:9 of a command word, which must be 0 (R90). -/
def fieldHigh (w : Word) : BitVec 23 := w.extractLsb' 9 23

/-- Bit 8 of a command word, the field `D` (R90, R92). -/
def fieldD (w : Word) : Bool := w.getLsbD 8

/-- Bits 7:0 of a command word, the field `OP` (R90). -/
def fieldOp (w : Word) : BitVec 8 := w.extractLsb' 0 8

/-- Whether an opcode is of format D (R94): MOVE, HOLD and SETDIR. -/
def formatD (op : BitVec 8) : Bool := op == 0x01#8 || op == 0x04#8 || op == 0x07#8

/-- The command of a defined opcode (R94); `none` for the undefined ones. -/
def commandOf (op : BitVec 8) (d : Bool) : Option Instr :=
  match op.toNat with
  | 0 => some .nop
  | 1 => some (.move d)
  | 2 => some .wind
  | 3 => some .unwind
  | 4 => some (.hold d)
  | 5 => some .brake
  | 6 => some .settgt
  | 7 => some (.setdir d)
  | 8 => some .rdrst
  | _ => none

/-- `decode(w)` of R96: reserved high bits first, then the opcode, then bit 8. -/
def decode (w : Word) : Decoded :=
  if fieldHigh w ≠ 0 then .refused .rsvd
  else
    match commandOf (fieldOp w) (fieldD w) with
    | none => .refused .undef
    | some i => if fieldD w && !formatD (fieldOp w) then .refused .rsvd else .command i

/-- The opcode of a command (R94). -/
def opcodeOf : Instr → BitVec 8
  | .nop => 0x00#8
  | .move _ => 0x01#8
  | .wind => 0x02#8
  | .unwind => 0x03#8
  | .hold _ => 0x04#8
  | .brake => 0x05#8
  | .settgt => 0x06#8
  | .setdir _ => 0x07#8
  | .rdrst => 0x08#8

/-- The direction bit of a command's word: `D` in format D, 0 in format N (R90). -/
def directionOf : Instr → Bool
  | .move d | .hold d | .setdir d => d
  | .nop | .wind | .unwind | .brake | .settgt | .rdrst => false

/-- The command word of a command: bits 31:9 zero, bit 8 `D`, bits 7:0 `OP` (R90, R94). -/
def encode (i : Instr) : Word := 0#23 ++ BitVec.ofBool (directionOf i) ++ opcodeOf i

/-- The 32-bit word a host writes for an instruction whose low `nbits` bits are those of `w`: the bits above are 0. -/
def tableWord (nbits w : Nat) : Word := BitVec.ofNat 32 (w % 2 ^ nbits)

/-- The command the decoder reads from a row's word. A command is one 32-bit word and no more (R90), so a number that does
not fit the word is no command. -/
def decodeTableWord (nbits w : Nat) : Option Instr :=
  if w % 2 ^ nbits < 4294967296 then
    match decode (tableWord nbits w) with
    | .command i => some i
    | .refused _ => none
  else none

end Sys2Proof
end

