-- ==== Sys2Proof/Machine/State.lean ====
section
/-! DEFINITION. The state of the WMC as plain data, holding every element of spec/10_state.md R20 to R36, the model's own
fields (the levels of the input pins, the data of the last bus read, the inputs still to come, the free-value counter), and
the state right after reset (R38). The places of the bits are in Machine/Flags.lean and Machine/Registers.lean. -/

namespace Sys2Proof.Machine

/-- The sequencer state `SEQ` (R24): an enumeration of nine states, coded 0 to 8 in this order. -/
inductive Seq where
  | idle | mvRun | mvStopOk | mvStopFail | hdSettle | hdWatch | hdNudge | hdNudgeStop | brkSettle
deriving DecidableEq, Repr

/-- The field `CAUSE` (R25, R261): 0 none, 1 stall, 2 timeout; the code 3 is never taken. -/
inductive Cause where
  | none | stall | timeout
deriving DecidableEq, Repr

/-- The stored result and status bits (R25). -/
structure Flags where
  done : Bool
  result : Bool
  cause : Cause
  cmderr : Bool
  errc : ErrCode
deriving DecidableEq, Repr

/-- `CTRL` (R27): the enable of the edge event source and the direction that winds. -/
structure Ctrl where
  fgEn : Bool
  windDir : Bool
deriving DecidableEq, Repr

/-- The configuration registers (R28), read live. -/
structure CfgRegs where
  pwmPeriod : Half
  ppm : Word
  rateRun : Word
  rateBrake : Word
  cmdTol : Word
  atEps : Word
  windCruise : Word
  unwindCruise : Word
deriving DecidableEq, Repr

/-- The thirteen operand registers (R22), latched at acceptance. -/
structure OpdRegs where
  mvDist : Word
  mvCruise : Word
  mvTimeout : Word
  mvPadDist : Word
  mvPadSpeed : Word
  mvStallWin : Word
  hdDuration : Word
  hdNudgeSpeed : Word
  hdDeadband : Word
  hdQuota : Word
  hdMinGap : Word
  slArgSpeed : Word
  slArgRate : Word
deriving DecidableEq, Repr

/-- The stall band table (R35): four lower speed bounds and the minimum pulse delta of each. -/
structure StallTable where
  thr0 : Word
  thr1 : Word
  thr2 : Word
  thr3 : Word
  min0 : Word
  min1 : Word
  min2 : Word
  min3 : Word
deriving DecidableEq, Repr

/-- The pulse counter and its capture register (R29). -/
structure Pulse where
  pcnt : Word
  pcap : Word
deriving DecidableEq, Repr

/-- The SlewState and the limiter's output register (R30). -/
structure Slew where
  slCurrent : Word
  slTarget : Word
  slRate : Word
  slLast : Stamp
  slInit : Bool
  duty : Half
deriving DecidableEq, Repr

/-- The latched MoveProfile (R31). -/
structure MoveProfile where
  pDir : Bool
  pTarget : Word
  pCruise : Word
  pPadn : Word
  pPadspd : Word
  pTimeout : Word
  pStallwin : Word
deriving DecidableEq, Repr

/-- Move run state (R32). -/
structure MoveRun where
  tStart : Stamp
  wStart : Stamp
  wCount : Word
deriving DecidableEq, Repr

/-- The latched HoldProfile (R33). -/
structure HoldProfile where
  hDur : Word
  hDir : Bool
  hNspd : Word
  hDb : Word
  hQuota : Word
  hGap : Word
deriving DecidableEq, Repr

/-- Hold run state (R34). -/
structure HoldRun where
  hStart : Stamp
  nLast : Stamp
  nudgeCnt : Word
deriving DecidableEq, Repr

/-- The hidden state (R36): the two synchroniser flops of `fg_in`, the previous synchronised level, the waveform counter. -/
structure Hidden where
  fgS1 : Bool
  fgS2 : Bool
  fgPrev : Bool
  pwmCnt : Half
deriving DecidableEq, Repr

/-- The levels the environment holds on the input ports (R21). R20 says they are not state of the WMC: they are the model's
own fields (log entry 1), changed only by an `Input`. -/
structure Pins where
  timeUs : Stamp
  fgIn : Bool
  rstN : Bool
deriving DecidableEq, Repr

/-- What the bus ports carry in one access (R21, R63, R64). -/
inductive BusReq where
  /-- `bus_re` alone. -/
  | read (off : Offset)
  /-- `bus_we` alone. -/
  | write (off : Offset) (v : Word)
  /-- `bus_we` and `bus_re` together, outside the port contract (spec/93_implementation_defined.md U1). -/
  | both (off : Offset) (v : Word)
deriving DecidableEq, Repr

/-- One thing the outside world does next. The first three change an input pin, the next three are one atomic step of one
agent (R6), the last is one rising edge of `clk` in the hardware rendering (R70, R320). -/
inductive Input where
  /-- The Clock agent: `time_us` takes the value `t` (R277). -/
  | time (t : Stamp)
  /-- The level of `fg_in` changes (R21). -/
  | fg (level : Bool)
  /-- The level of `rst_n` changes; low is reset (R290). -/
  | rst (level : Bool)
  /-- The Edge agent: one qualifying rising edge (R141). -/
  | edge
  /-- The Host agent: one bus access (R63, R64). -/
  | bus (r : BusReq)
  /-- The Control agent: one iteration (R128). -/
  | iterate
  /-- One rising edge of `clk`, with the bus access of that cycle if there is one. -/
  | clk (r : Option BusReq)
deriving DecidableEq, Repr

/-- The whole machine. -/
structure State where
  seq : Seq
  flags : Flags
  dir : Bool
  ctrl : Ctrl
  cfg : CfgRegs
  opd : OpdRegs
  stall : StallTable
  pulse : Pulse
  slew : Slew
  move : MoveProfile
  moveRun : MoveRun
  hold : HoldProfile
  holdRun : HoldRun
  hidden : Hidden
  pins : Pins
  busRdata : Word
  script : List Input
  freeCount : Nat
deriving DecidableEq, Repr

/-- Reasons a step stops with a fault. There are none: "no access faults, no operand is rejected, no arithmetic overflows"
(R260), "No access traps or faults" (R62), "No write faults" (R64). The type is empty, so that no step faults is a fact of the
type; this is safe. -/
inductive Fault where
deriving DecidableEq, Repr

/-- Reasons a step is refused by the MODEL. (The hardware's own refusal of a command word, `refuse(c)` of R123, is a next state
with `CMDERR` and `ERRC` set, not one of these.) -/
inductive Refusal where
  /-- Raised by an arm of `exec` for a command that has no meaning yet. No arm raises it; refusing is safe. -/
  | notModelled (mnemonic : String)
deriving DecidableEq, Repr

/-- What a step answers. -/
abbrev Result := Host.Outcome State Fault Refusal

/-- The machine right after reset: every element at its value in R38; the model's own fields at the values of log entry 1. -/
def State.reset : State where
  seq := .idle
  flags := { done := false, result := false, cause := .none, cmderr := false, errc := .none }
  dir := false
  ctrl := { fgEn := false, windDir := false }
  cfg := { pwmPeriod := 0, ppm := 0, rateRun := 0, rateBrake := 0, cmdTol := 0, atEps := 0, windCruise := 0,
           unwindCruise := 0 }
  opd := { mvDist := 0, mvCruise := 0, mvTimeout := 0, mvPadDist := 0, mvPadSpeed := 0, mvStallWin := 0, hdDuration := 0,
           hdNudgeSpeed := 0, hdDeadband := 0, hdQuota := 0, hdMinGap := 0, slArgSpeed := 0, slArgRate := 0 }
  stall := { thr0 := 15000000, thr1 := 0xFFFFFFFF, thr2 := 0xFFFFFFFF, thr3 := 0xFFFFFFFF, min0 := 1, min1 := 0,
             min2 := 0, min3 := 0 }
  pulse := { pcnt := 0, pcap := 0 }
  slew := { slCurrent := 0, slTarget := 0, slRate := 1, slLast := 0, slInit := false, duty := 0 }
  move := { pDir := false, pTarget := 0, pCruise := 0, pPadn := 0, pPadspd := 0, pTimeout := 0, pStallwin := 0 }
  moveRun := { tStart := 0, wStart := 0, wCount := 0 }
  hold := { hDur := 0, hDir := false, hNspd := 0, hDb := 0, hQuota := 0, hGap := 0 }
  holdRun := { hStart := 0, nLast := 0, nudgeCnt := 0 }
  hidden := { fgS1 := true, fgS2 := true, fgPrev := true, pwmCnt := 0 }
  pins := { timeUs := 0, fgIn := true, rstN := true }
  busRdata := 0
  script := []
  freeCount := 0

end Sys2Proof.Machine
end

