-- ==== Sys2Proof/Machine/Operands.lean ====
section
/-! DEFINITION. The arithmetic laws of spec/00_scope.md R10 to R17 and the operand conversions of spec/30_encoding.md R93:
everything is computed on mathematical integers and narrowed once, where it is stored. -/

namespace Sys2Proof.Machine

/-- `clamp(v, lo, hi)` (R8). -/
def clamp (v lo hi : Int) : Int := if v < lo then lo else if hi < v then hi else v

/-- A speed operand brought into range, `clamp(s32(v), 0, FS)` (R11). -/
def speedOf (v : Word) : Word := BitVec.ofInt 32 (clamp v.toInt 0 Config.fullScale)

/-- A rate operand brought into range: `s32(v) <= 0` becomes `RATE_MIN` (R12). -/
def rateOf (v : Word) : Word := if v.toInt ≤ 0 then BitVec.ofNat 32 Config.rateMin else v

/-- `dt64(a, b) = (a - b) mod 2^64`, the time elapsed from `b` to `a` (R13). -/
def dt64 (a b : Stamp) : Nat := (a - b).toNat

/-- `pulses_of(dist)` with the register `PPM` (R14): pulses, rounded to nearest with halves up; 0 for a non-positive distance. -/
def pulsesOf (dist ppm : Word) : Nat :=
  if dist.toInt ≤ 0 then 0
  else (dist.toInt.toNat * ppm.toNat + Config.pulseDen / 2) / Config.pulseDen

/-- `padding(tgt)` (R194): the padding pulse count, shrunk to half the target when twice it would exceed the target. -/
def paddingOf (tgt : Nat) (padDist ppm : Word) : Nat :=
  if 2 * pulsesOf padDist ppm > tgt then tgt / 2 else pulsesOf padDist ppm

/-- `profile(c)` (R200): the speed wanted at the count `c`. -/
def profile (p : MoveProfile) (c : Word) : Word :=
  if c.toNat < p.pPadn.toNat then p.pPadspd
  else if (p.pTarget.toNat : Int) - c.toNat < p.pPadn.toNat then p.pPadspd
  else p.pCruise

/-- One band of `min_pulses`: the larger of `m` and the band's minimum when the speed is at or above its bound (R203). -/
def bandMin (s thr mn : Word) (m : Nat) : Nat := if s.toNat ≥ thr.toNat then max m mn.toNat else m

/-- `min_pulses(s)` (R203): the minimum pulse delta one stall window must show at the commanded speed `s`. -/
def minPulses (t : StallTable) (s : Word) : Nat :=
  bandMin s t.thr3 t.min3 (bandMin s t.thr2 t.min2 (bandMin s t.thr1 t.min1 (bandMin s t.thr0 t.min0 0)))

/-- `abs(a - b)` of two speeds (R8). -/
def absDiff (a b : Word) : Nat := ((a.toNat : Int) - b.toNat).natAbs

/-- The new `SL_CURRENT` of an update that finds `SL_INIT = 1`: toward `tgt` by at most `rate * dt`, with the snap (R163, R165). -/
def slewStep (cur tgt rate dt : Nat) : Nat :=
  if cur ≤ tgt then (if tgt - cur ≤ rate * dt then tgt else cur + rate * dt)
  else (if cur - tgt ≤ rate * dt then tgt else cur - rate * dt)

/-- The duty value of a speed, `floor(SL_CURRENT * PWM_PERIOD / FS)` (R16, R166). -/
def dutyOf (cur : Word) (period : Half) : Half :=
  BitVec.ofNat 16 (cur.toNat * period.toNat / Config.fullScale)

/-- A 32-bit counter plus one, saturating at `2^32 - 1` (R141, R235). -/
def satInc (n : Word) : Word := if n.toNat < Config.counterMax then BitVec.ofNat 32 (n.toNat + 1) else n

end Sys2Proof.Machine
end

