-- ==== Sys2Proof/Machine/Flags.lean ====
section
/-! DEFINITION. The status bits that are computed and not stored, the codes of the enumerations, the words of `STATUS` and
`CTRL` (spec/10_state.md R24 to R27) and the output ports (R21, R36). -/

namespace Sys2Proof.Machine

/-- The code of a sequencer state (R24). -/
def seqBits : Seq → BitVec 4
  | .idle => 0
  | .mvRun => 1
  | .mvStopOk => 2
  | .mvStopFail => 3
  | .hdSettle => 4
  | .hdWatch => 5
  | .hdNudge => 6
  | .hdNudgeStop => 7
  | .brkSettle => 8

/-- The code of `CAUSE` (R25). -/
def causeBits : Cause → BitVec 2
  | .none => 0
  | .stall => 1
  | .timeout => 2

/-- The code of `ERRC` (R25, R99). -/
def errcBits : ErrCode → BitVec 2
  | .none => 0
  | .busy => 1
  | .undef => 2
  | .rsvd => 3

/-- `BUSY = (SEQ != IDLE)` (R25), also the output port `busy` (R21). -/
def busy (s : State) : Bool := s.seq != .idle

/-- `at_target(eps)` (R167): whether `SL_CURRENT` is within `eps` of `SL_TARGET`. -/
def atTargetWithin (eps : Nat) (s : State) : Bool := absDiff s.slew.slCurrent s.slew.slTarget ≤ eps

/-- `STATUS.AT_TARGET = at_target(AT_EPS)` (R25, R167). -/
def atTarget (s : State) : Bool := atTargetWithin s.cfg.atEps.toNat s

/-- The word a read of `STATUS` returns (R26): from bit 31 down, 16 reserved bits, `SEQ`, a reserved bit, `DIR`, `SL_INIT`,
`AT_TARGET`, `ERRC`, `CMDERR`, `CAUSE`, `RESULT`, `DONE`, `BUSY`. -/
def statusWord (s : State) : Word :=
  0#16 ++ seqBits s.seq ++ 0#1 ++ BitVec.ofBool s.dir ++ BitVec.ofBool s.slew.slInit ++ BitVec.ofBool (atTarget s)
    ++ errcBits s.flags.errc ++ BitVec.ofBool s.flags.cmderr ++ causeBits s.flags.cause ++ BitVec.ofBool s.flags.result
    ++ BitVec.ofBool s.flags.done ++ BitVec.ofBool (busy s)

/-- The word a read of `CTRL` returns (R27, R63). -/
def ctrlWord (c : Ctrl) : Word := 0#30 ++ BitVec.ofBool c.windDir ++ BitVec.ofBool c.fgEn

/-- The output port `pwm_out = (pwm_cnt < DUTY)` (R36). -/
def pwmOut (s : State) : Bool := s.hidden.pwmCnt.toNat < s.slew.duty.toNat

/-- The output port `dir_out`, which equals `DIR` (R21, R171). -/
def dirOut (s : State) : Bool := s.dir

/-- The output port `done`, which equals `STATUS.DONE` (R21). -/
def doneOut (s : State) : Bool := s.flags.done

end Sys2Proof.Machine
end

