-- ==== Sys2Proof/Machine/Ops.lean ====
section
/-! DEFINITION. The named operations every command and every iteration is made of: acceptance, refusal, completion and the
failure entry (spec/40_dispatch.md R121 to R126, spec/60_exceptions.md R266), the pulse counter's operations
(spec/41_pulse_counter.md), and the slew-rate limiter's (spec/42_slew_limiter.md). Each is total on states. -/

namespace Sys2Proof.Machine

/-- The acceptance prologue (R122): the result of the command before is cleared. -/
def prologue (s : State) : State :=
  { s with flags := { s.flags with done := false, result := false, cause := .none } }

/-- `refuse(c)` (R123): `CMDERR` and `ERRC`, and nothing else. -/
def refuse (c : ErrCode) (s : State) : State :=
  { s with flags := { s.flags with cmderr := true, errc := c } }

/-- `complete(r)` (R126): the outcome is reported and the sequencer goes to `IDLE`; `CAUSE` is not written. -/
def complete (r : Bool) (s : State) : State :=
  { s with seq := .idle, flags := { s.flags with done := true, result := r } }

/-- A legal command word reaching `issue` (R121): refused with `BUSY` unless the sequencer is `IDLE` (R98), else the prologue and
then the command's own action. -/
def accept (act : State → State) (s : State) : Result :=
  if s.seq = .idle then .next (act (prologue s)) else .next (refuse .busy s)

/-- `increment()` (R141), with the edge source suspended counting nothing (R142). -/
def increment (s : State) : State :=
  if s.ctrl.fgEn then { s with pulse := { s.pulse with pcnt := satInc s.pulse.pcnt } } else s

/-- `reset_counter()` (R143): suspend, zero, resume, in one atomic step; its net effect is `PCNT <- 0; FG_EN <- 1`. -/
def resetCounter (s : State) : State :=
  { s with pulse := { s.pulse with pcnt := 0 }, ctrl := { s.ctrl with fgEn := true } }

/-- `read_and_reset()` (R145): capture, then `reset_counter()`. -/
def readAndReset (s : State) : State :=
  resetCounter { s with pulse := { s.pulse with pcap := s.pulse.pcnt } }

/-- `set_target(speed, rate)` (R161): the target and the ramp rate, nothing else. -/
def setTarget (speed rate : Word) (s : State) : State :=
  { s with slew := { s.slew with slTarget := speedOf speed, slRate := rateOf rate } }

/-- `brake()` (R169): `set_target(0, RATE_BRAKE)`. -/
def brake (s : State) : State := setTarget 0 s.cfg.rateBrake s

/-- `set_dir(d)` (R171). -/
def setDir (d : Bool) (s : State) : State := { s with dir := d }

/-- The SlewState part of `update(now)` (R163): the first update records the time only (R164), every later one steps. -/
def slewAdvance (now : Stamp) (l : Slew) : Slew :=
  if l.slInit then
    { l with
      slCurrent := BitVec.ofNat 32 (slewStep l.slCurrent.toNat l.slTarget.toNat l.slRate.toNat (dt64 now l.slLast))
      slLast := now }
  else { l with slLast := now, slInit := true }

/-- `update(now)` (R163): advance the SlewState, then write `DUTY` from the `PWM_PERIOD` in force (R166). -/
def update (now : Stamp) (s : State) : State :=
  let l := slewAdvance now s.slew
  { s with slew := { l with duty := dutyOf l.slCurrent s.cfg.pwmPeriod } }

/-- `SEQ <- q`. -/
def goto (q : Seq) (s : State) : State := { s with seq := q }

/-- The failure entry `raise Stall` / `raise Timeout` (R266), shared by both failures: what is saved is `CAUSE`, then `brake()`, and
control goes to the one fixed state `MV_STOP_FAIL`. -/
def raiseFailure (c : Cause) (s : State) : State :=
  goto .mvStopFail (brake { s with flags := { s.flags with cause := c } })

/-- The settle loop common to five states (R131): one update, then the exit action in the first iteration that finds
`SL_CURRENT = 0`. -/
def settle (now : Stamp) (exit : State → State) (s : State) : State :=
  if (update now s).slew.slCurrent = 0 then exit (update now s) else update now s

/-- The return from a failure (R267, R208): the `MV_STOP_FAIL` iteration ends the move with `complete(0)`; nothing is restored. -/
def failReturn (now : Stamp) (s : State) : State := settle now (complete false) s

end Sys2Proof.Machine
end

