-- ==== Sys2Proof/Machine/Counter.lean ====
section
/-! DEFINITION. The commands NOP (spec/40_dispatch.md R125) and RDRST (spec/41_pulse_counter.md R146). -/

namespace Sys2Proof.Machine

/-- NOP (R125): `complete(1)`. -/
def execNop (s : State) : Result := accept (complete true) s

/-- RDRST (R146): `read_and_reset()`, then `complete(1)`. -/
def execRdrst (s : State) : Result := accept (fun t => complete true (readAndReset t)) s

end Sys2Proof.Machine
end

