-- ==== Sys2Proof/Machine/Hold.lean ====
section
/-! DEFINITION. The Hold-Position Supervisor (spec/44_hold.md): the command HOLD and the iterations of `HD_SETTLE`, `HD_WATCH`,
`HD_NUDGE` and `HD_NUDGE_STOP`. -/

namespace Sys2Proof.Machine

/-- The latched profile of a hold accepted in `s` (R231). -/
def holdProfileOf (d : Bool) (s : State) : HoldProfile :=
  { hDur := s.opd.hdDuration
    hDir := d
    hNspd := speedOf s.opd.hdNudgeSpeed
    hDb := s.opd.hdDeadband
    hQuota := s.opd.hdQuota
    hGap := s.opd.hdMinGap }

/-- `start_hold(d)` (R231): latch the profile, clear the nudge count, brake, settle. -/
def startHold (d : Bool) (s : State) : State :=
  goto .hdSettle
    (brake { s with hold := holdProfileOf d s, holdRun := { s.holdRun with nudgeCnt := 0 } })

/-- HOLD (R230). -/
def execHold (d : Bool) (s : State) : Result := accept (startHold d) s

/-- The exit of `HD_SETTLE` (R232): reset the counter, start the hold's duration and its first gap. -/
def beginWatch (now : Stamp) (s : State) : State :=
  let t := resetCounter s
  goto .hdWatch { t with holdRun := { t.holdRun with hStart := now, nLast := now } }

/-- The `HD_SETTLE` iteration (R232). -/
def hdSettleIter (now : Stamp) (s : State) : State := settle now (beginWatch now) s

/-- `start_nudge()` (R235): reset the counter, set the tow-up direction, command the nudge speed, count the nudge. -/
def startNudge (s : State) : State :=
  let t := setTarget s.hold.hNspd s.cfg.rateRun (setDir s.hold.hDir (resetCounter s))
  goto .hdNudge { t with holdRun := { t.holdRun with nudgeCnt := satInc t.holdRun.nudgeCnt } }

/-- `watch_iter(now)` (R233): completion first (R238), then the update, then slip detection (R234). -/
def watchIter (now : Stamp) (s : State) : State :=
  if dt64 now s.holdRun.hStart ≥ s.hold.hDur.toNat then complete true s
  else
    let t := update now s
    if t.pulse.pcnt.toNat > t.hold.hDb.toNat ∧ dt64 now t.holdRun.nLast ≥ t.hold.hGap.toNat then startNudge t else t

/-- `nudge_iter(now)` (R236): brake when the quota is met, else update. -/
def nudgeIter (now : Stamp) (s : State) : State :=
  if s.pulse.pcnt.toNat ≥ s.hold.hQuota.toNat then goto .hdNudgeStop (brake s) else update now s

/-- The exit of `HD_NUDGE_STOP` (R237): reset the counter, record the nudge timestamp. -/
def resumeWatch (now : Stamp) (s : State) : State :=
  let t := resetCounter s
  goto .hdWatch { t with holdRun := { t.holdRun with nLast := now } }

/-- The `HD_NUDGE_STOP` iteration (R237). -/
def hdNudgeStopIter (now : Stamp) (s : State) : State := settle now (resumeWatch now) s

end Sys2Proof.Machine
end

