-- ==== Sys2Proof/Machine/Limiter.lean ====
section
/-! DEFINITION. The commands SETTGT, BRAKE and SETDIR and the `BRK_SETTLE` iteration (spec/42_slew_limiter.md R172 to R175). -/

namespace Sys2Proof.Machine

/-- SETTGT (R172): `set_target(SL_ARG_SPEED, SL_ARG_RATE)`, then `complete(1)`. -/
def execSettgt (s : State) : Result :=
  accept (fun t => complete true (setTarget t.opd.slArgSpeed t.opd.slArgRate t)) s

/-- BRAKE (R173): `brake()`, then the settle loop `BRK_SETTLE`. -/
def execBrake (s : State) : Result := accept (fun t => goto .brkSettle (brake t)) s

/-- SETDIR (R174): `set_dir(D)`, then `complete(1)`. -/
def execSetdir (d : Bool) (s : State) : Result := accept (fun t => complete true (setDir d t)) s

/-- The `BRK_SETTLE` iteration (R175). -/
def brkSettleIter (now : Stamp) (s : State) : State := settle now (complete true) s

end Sys2Proof.Machine
end

