-- ==== Sys2Proof/Machine/Move.lean ====
section
/-! DEFINITION. The Move-By-Distance Controller (spec/43_move.md): the commands MOVE, WIND and UNWIND and the iterations of
`MV_RUN`, `MV_STOP_OK` and `MV_STOP_FAIL`. -/

namespace Sys2Proof.Machine

/-- The latched profile of a move accepted in `s` (R195 steps 1 and 2, R194). -/
def moveProfileOf (dir : Bool) (cruise : Word) (s : State) : MoveProfile :=
  let tgt := pulsesOf s.opd.mvDist s.cfg.ppm
  { pDir := dir
    pTarget := BitVec.ofNat 32 tgt
    pCruise := speedOf cruise
    pPadn := BitVec.ofNat 32 (paddingOf tgt s.opd.mvPadDist s.cfg.ppm)
    pPadspd := speedOf s.opd.mvPadSpeed
    pTimeout := s.opd.mvTimeout
    pStallwin := s.opd.mvStallWin }

/-- `start_move` with a positive distance (R195): latch the profile, reset the counter, set the direction, command the padding
speed if padding is active and the cruise speed otherwise, start both timers. -/
def beginMove (dir : Bool) (cruise : Word) (now : Stamp) (s : State) : State :=
  let p := moveProfileOf dir cruise s
  let t := setDir dir (resetCounter { s with move := p })
  let u := setTarget (if 0 < p.pPadn.toNat then p.pPadspd else p.pCruise) s.cfg.rateRun t
  goto .mvRun { u with moveRun := { tStart := now, wStart := now, wCount := 0 } }

/-- `start_move(dir, cruise, now)` (R195), with the trivial move of a non-positive distance (R196). -/
def startMove (dir : Bool) (cruise : Word) (now : Stamp) (s : State) : State :=
  if s.opd.mvDist.toInt ≤ 0 then complete true s else beginMove dir cruise now s

/-- MOVE (R191). -/
def execMove (d : Bool) (s : State) : Result :=
  accept (fun t => startMove d t.opd.mvCruise t.pins.timeUs t) s

/-- WIND (R192): the direction is `WIND_DIR`, the cruise speed `WIND_CRUISE`. -/
def execWind (s : State) : Result :=
  accept (fun t => startMove t.ctrl.windDir t.cfg.windCruise t.pins.timeUs t) s

/-- UNWIND (R193): the direction is `1 - WIND_DIR`, the cruise speed `UNWIND_CRUISE`. -/
def execUnwind (s : State) : Result :=
  accept (fun t => startMove (!t.ctrl.windDir) t.cfg.unwindCruise t.pins.timeUs t) s

/-- The re-issue of a speed command, only beyond the tolerance (R201). -/
def reissue (desired : Word) (s : State) : State :=
  if absDiff desired s.slew.slTarget > s.cfg.cmdTol.toNat then setTarget desired s.cfg.rateRun s else s

/-- The last part of `move_iter`, the timeout (R206). -/
def timeoutCheck (now : Stamp) (s : State) : State :=
  if dt64 now s.moveRun.tStart > s.move.pTimeout.toNat then raiseFailure .timeout s else s

/-- The stall window of `move_iter` and what follows it (R202, R203, R205), `c` being the count this iteration read. -/
def stallCheck (now : Stamp) (c : Word) (s : State) : State :=
  if dt64 now s.moveRun.wStart ≥ s.move.pStallwin.toNat then
    if (c.toNat : Int) - s.moveRun.wCount.toNat < minPulses s.stall s.slew.slTarget then raiseFailure .stall s
    else timeoutCheck now { s with moveRun := { s.moveRun with wStart := now, wCount := c } }
  else timeoutCheck now s

/-- `move_iter(now)` (R197): target, update, profile, stall, timeout, in that order. -/
def moveIter (now : Stamp) (s : State) : State :=
  let c := s.pulse.pcnt
  if c.toNat ≥ s.move.pTarget.toNat then goto .mvStopOk (brake s)
  else
    let t := update now s
    stallCheck now c (reissue (profile t.move c) t)

/-- The `MV_STOP_OK` iteration (R207). -/
def mvStopOkIter (now : Stamp) (s : State) : State := settle now (complete true) s

/-- The `MV_STOP_FAIL` iteration (R208). -/
def mvStopFailIter (now : Stamp) (s : State) : State := failReturn now s

end Sys2Proof.Machine
end

