-- ==== Sys2Proof/Machine/Dispatch.lean ====
section
/-! DEFINITION. The dispatch of a decoded command to its meaning (spec/40_dispatch.md R121). -/

namespace Sys2Proof.Machine

/-- What `issue` does with a word that decodes to the command `i` (R121). -/
def exec (i : Instr) (s : State) : Host.Outcome State Fault Refusal :=
  match i with
  | .nop => Sys2Proof.Machine.execNop s
  | .move d => Sys2Proof.Machine.execMove d s
  | .wind => Sys2Proof.Machine.execWind s
  | .unwind => Sys2Proof.Machine.execUnwind s
  | .hold d => Sys2Proof.Machine.execHold d s
  | .brake => Sys2Proof.Machine.execBrake s
  | .settgt => Sys2Proof.Machine.execSettgt s
  | .setdir d => Sys2Proof.Machine.execSetdir d s
  | .rdrst => Sys2Proof.Machine.execRdrst s

end Sys2Proof.Machine
end

