-- ==== Sys2Proof/Machine/Registers.lean ====
section
/-! DEFINITION. The register space (spec/20_memory.md R60 to R68): the named registers of the address map, what a read of each
returns and what a plain write of each stores. The write of `CMD` is in Machine/Bus.lean. -/

namespace Sys2Proof.Machine

/-- The registers of the address map (R66), in the order of their offsets. -/
inductive BusReg where
  | cmd | status | ctrl | pcnt | pcap | slCurrent | slTarget | slRate | duty | pwmPeriod | ppm | rateRun | rateBrake
  | cmdTol | atEps | windCruise | unwindCruise | mvDist | mvCruise | mvTimeout | mvPadDist | mvPadSpeed | mvStallWin
  | hdDuration | hdNudgeSpeed | hdDeadband | hdQuota | hdMinGap | slArgSpeed | slArgRate
  | stallThr0 | stallThr1 | stallThr2 | stallThr3 | stallMin0 | stallMin1 | stallMin2 | stallMin3
  | pTarget | pPadn | nudgeCnt
deriving DecidableEq, Repr

/-- The slot an access falls in: the two low bits of `bus_addr` are ignored (R62), so it is the offset divided by 4. -/
def slotOf (off : Offset) : Nat := off.toNat / 4

/-- The register at a byte offset (R62, R66); `none` at a reserved offset (R67). -/
def regAt (off : Offset) : Option BusReg :=
  match slotOf off with
  | 0x00 => some .cmd
  | 0x01 => some .status
  | 0x02 => some .ctrl
  | 0x03 => some .pcnt
  | 0x04 => some .pcap
  | 0x05 => some .slCurrent
  | 0x06 => some .slTarget
  | 0x07 => some .slRate
  | 0x08 => some .duty
  | 0x09 => some .pwmPeriod
  | 0x0A => some .ppm
  | 0x0B => some .rateRun
  | 0x0C => some .rateBrake
  | 0x0D => some .cmdTol
  | 0x0E => some .atEps
  | 0x0F => some .windCruise
  | 0x10 => some .unwindCruise
  | 0x11 => some .mvDist
  | 0x12 => some .mvCruise
  | 0x13 => some .mvTimeout
  | 0x14 => some .mvPadDist
  | 0x15 => some .mvPadSpeed
  | 0x16 => some .mvStallWin
  | 0x17 => some .hdDuration
  | 0x18 => some .hdNudgeSpeed
  | 0x19 => some .hdDeadband
  | 0x1A => some .hdQuota
  | 0x1B => some .hdMinGap
  | 0x1C => some .slArgSpeed
  | 0x1D => some .slArgRate
  | 0x20 => some .stallThr0
  | 0x21 => some .stallThr1
  | 0x22 => some .stallThr2
  | 0x23 => some .stallThr3
  | 0x24 => some .stallMin0
  | 0x25 => some .stallMin1
  | 0x26 => some .stallMin2
  | 0x27 => some .stallMin3
  | 0x28 => some .pTarget
  | 0x29 => some .pPadn
  | 0x2A => some .nudgeCnt
  | _ => none

/-- What a read of a register returns (R63); a read of `CMD` returns 0 (R91). -/
def readReg (r : BusReg) (s : State) : Word :=
  match r with
  | .cmd => 0
  | .status => statusWord s
  | .ctrl => ctrlWord s.ctrl
  | .pcnt => s.pulse.pcnt
  | .pcap => s.pulse.pcap
  | .slCurrent => s.slew.slCurrent
  | .slTarget => s.slew.slTarget
  | .slRate => s.slew.slRate
  | .duty => s.slew.duty.setWidth 32
  | .pwmPeriod => s.cfg.pwmPeriod.setWidth 32
  | .ppm => s.cfg.ppm
  | .rateRun => s.cfg.rateRun
  | .rateBrake => s.cfg.rateBrake
  | .cmdTol => s.cfg.cmdTol
  | .atEps => s.cfg.atEps
  | .windCruise => s.cfg.windCruise
  | .unwindCruise => s.cfg.unwindCruise
  | .mvDist => s.opd.mvDist
  | .mvCruise => s.opd.mvCruise
  | .mvTimeout => s.opd.mvTimeout
  | .mvPadDist => s.opd.mvPadDist
  | .mvPadSpeed => s.opd.mvPadSpeed
  | .mvStallWin => s.opd.mvStallWin
  | .hdDuration => s.opd.hdDuration
  | .hdNudgeSpeed => s.opd.hdNudgeSpeed
  | .hdDeadband => s.opd.hdDeadband
  | .hdQuota => s.opd.hdQuota
  | .hdMinGap => s.opd.hdMinGap
  | .slArgSpeed => s.opd.slArgSpeed
  | .slArgRate => s.opd.slArgRate
  | .stallThr0 => s.stall.thr0
  | .stallThr1 => s.stall.thr1
  | .stallThr2 => s.stall.thr2
  | .stallThr3 => s.stall.thr3
  | .stallMin0 => s.stall.min0
  | .stallMin1 => s.stall.min1
  | .stallMin2 => s.stall.min2
  | .stallMin3 => s.stall.min3
  | .pTarget => s.move.pTarget
  | .pPadn => s.move.pPadn
  | .nudgeCnt => s.holdRun.nudgeCnt

/-- `MemRead(off, 4)` (R63): the register's word, 0 at a reserved offset (R67). -/
def memRead (off : Offset) (s : State) : Word :=
  match regAt off with
  | some r => readReg r s
  | none => 0

/-- The byte at an offset as a byte-addressed platform maps it: byte `k` of a word is its bits `8k+7 : 8k` (R61). -/
def readByte (off : Offset) (s : State) : Byte := (memRead off s).extractLsb' (8 * (off.toNat % 4)) 8

/-- The write of `STATUS` (R26, R64): a 1 in bit 5 clears `CMDERR` and `ERRC`; nothing else is written. -/
def writeStatus (v : Word) (s : State) : State :=
  if v.getLsbD 5 then { s with flags := { s.flags with cmderr := false, errc := .none } } else s

/-- What a write of a register other than `CMD` stores (R64): read-only registers ignore it. -/
def writeReg (r : BusReg) (v : Word) (s : State) : State :=
  match r with
  | .status => writeStatus v s
  | .ctrl => { s with ctrl := { fgEn := v.getLsbD 0, windDir := v.getLsbD 1 } }
  | .pwmPeriod => { s with cfg := { s.cfg with pwmPeriod := v.setWidth 16 } }
  | .ppm => { s with cfg := { s.cfg with ppm := v } }
  | .rateRun => { s with cfg := { s.cfg with rateRun := v } }
  | .rateBrake => { s with cfg := { s.cfg with rateBrake := v } }
  | .cmdTol => { s with cfg := { s.cfg with cmdTol := v } }
  | .atEps => { s with cfg := { s.cfg with atEps := v } }
  | .windCruise => { s with cfg := { s.cfg with windCruise := v } }
  | .unwindCruise => { s with cfg := { s.cfg with unwindCruise := v } }
  | .mvDist => { s with opd := { s.opd with mvDist := v } }
  | .mvCruise => { s with opd := { s.opd with mvCruise := v } }
  | .mvTimeout => { s with opd := { s.opd with mvTimeout := v } }
  | .mvPadDist => { s with opd := { s.opd with mvPadDist := v } }
  | .mvPadSpeed => { s with opd := { s.opd with mvPadSpeed := v } }
  | .mvStallWin => { s with opd := { s.opd with mvStallWin := v } }
  | .hdDuration => { s with opd := { s.opd with hdDuration := v } }
  | .hdNudgeSpeed => { s with opd := { s.opd with hdNudgeSpeed := v } }
  | .hdDeadband => { s with opd := { s.opd with hdDeadband := v } }
  | .hdQuota => { s with opd := { s.opd with hdQuota := v } }
  | .hdMinGap => { s with opd := { s.opd with hdMinGap := v } }
  | .slArgSpeed => { s with opd := { s.opd with slArgSpeed := v } }
  | .slArgRate => { s with opd := { s.opd with slArgRate := v } }
  | .stallThr0 => { s with stall := { s.stall with thr0 := v } }
  | .stallThr1 => { s with stall := { s.stall with thr1 := v } }
  | .stallThr2 => { s with stall := { s.stall with thr2 := v } }
  | .stallThr3 => { s with stall := { s.stall with thr3 := v } }
  | .stallMin0 => { s with stall := { s.stall with min0 := v } }
  | .stallMin1 => { s with stall := { s.stall with min1 := v } }
  | .stallMin2 => { s with stall := { s.stall with min2 := v } }
  | .stallMin3 => { s with stall := { s.stall with min3 := v } }
  | .cmd | .pcnt | .pcap | .slCurrent | .slTarget | .slRate | .duty | .pTarget | .pPadn | .nudgeCnt => s

end Sys2Proof.Machine
end

