-- ==== Sys2Proof/Machine/Bus.lean ====
section
/-! DEFINITION. The Host agent: `issue` (spec/40_dispatch.md R121), `MemWrite` (spec/20_memory.md R64) and one bus access. -/

namespace Sys2Proof.Machine

/-- `issue(w)` (R121): decode first, so that an illegal word records its own code even while busy (R99). -/
def issue (w : Word) (s : State) : Result :=
  match decode w with
  | .refused c => .next (refuse c s)
  | .command i => exec i s

/-- `MemWrite(off, 4, v)` (R64): a write of `CMD` issues a command, a write at a reserved offset does nothing (R67). -/
def memWrite (off : Offset) (v : Word) (s : State) : Result :=
  match regAt off with
  | some .cmd => issue v s
  | some r => .next (writeReg r v s)
  | none => .next s

/-- Both strobes in one cycle, outside the port contract: the read data is a free value and whether the write is performed
is free (spec/93_implementation_defined.md U1, log entry 6). -/
def busBoth (off : Offset) (v : Word) (s : State) : Result :=
  let k := s.freeCount
  let t := { s with busRdata := Config.freeRdata k, freeCount := k + 1 }
  if Config.freeWriteTaken k then memWrite off v t else .next t

/-- The Host agent's step (R65): one access. A read puts its data on `bus_rdata` and changes no state of the WMC (R63). -/
def busAccess (r : BusReq) (s : State) : Result :=
  match r with
  | .read off => .next { s with busRdata := memRead off s }
  | .write off v => memWrite off v s
  | .both off v => busBoth off v s

end Sys2Proof.Machine
end

