-- ==== Sys2Proof/Machine/Control.lean ====
section
/-! DEFINITION. The control iteration (spec/40_dispatch.md R128, R129): one step of the Control agent. -/

namespace Sys2Proof.Machine

/-- `iterate(now)` (R128), with `now` the one value of `time_us` the step samples (R277). -/
def iterateAt (now : Stamp) (s : State) : State :=
  match s.seq with
  | .idle => update now s
  | .mvRun => moveIter now s
  | .mvStopOk => mvStopOkIter now s
  | .mvStopFail => mvStopFailIter now s
  | .hdSettle => hdSettleIter now s
  | .hdWatch => watchIter now s
  | .hdNudge => nudgeIter now s
  | .hdNudgeStop => hdNudgeStopIter now s
  | .brkSettle => brkSettleIter now s

/-- The Control agent's step: `iterate` at the time on the input `time_us`. -/
def iterate (s : State) : State := iterateAt s.pins.timeUs s

end Sys2Proof.Machine
end

