-- ==== Sys2Proof/Machine/Clock.lean ====
section
/-! DEFINITION. The hardware rendering below the agents: the synchroniser and edge detector, the waveform counter
(spec/10_state.md R36, spec/41_pulse_counter.md R144), one rising edge of `clk` (spec/20_memory.md R70), and reset
(spec/70_reset_and_hazards.md R290). -/

namespace Sys2Proof.Machine

/-- Whether the detector delivers an edge event at this rising `clk` edge: `fg_s2 = 1` and `fg_prev = 0` (R36, R144). -/
def edgeDetected (h : Hidden) : Bool := h.fgS2 && !h.fgPrev

/-- The next value of `pwm_cnt` (R36): back to 0 after `PWM_PERIOD - 1`, and 0 when `PWM_PERIOD <= 1`. A counter that a smaller
`PWM_PERIOD` left above its range also returns to 0 (log entry 4). -/
def pwmNext (cnt period : Half) : Half :=
  if cnt.toNat + 1 < period.toNat then BitVec.ofNat 16 (cnt.toNat + 1) else 0

/-- The hidden flops at a rising `clk` edge, from their values before it (R36). -/
def hiddenNext (fgIn : Bool) (period : Half) (h : Hidden) : Hidden :=
  { fgS1 := fgIn, fgS2 := h.fgS1, fgPrev := h.fgS2, pwmCnt := pwmNext h.pwmCnt period }

/-- The agents' steps of one clock cycle, "edge, then host, then control" (R70), each on the state the one before left. -/
def cycleAgents (r : Option BusReq) (s : State) : Result :=
  let t := if edgeDetected s.hidden then increment s else s
  match r with
  | none => .next (iterate t)
  | some q =>
    match busAccess q t with
    | .next u => .next (iterate u)
    | .fault f => .fault f
    | .refused x => .refused x

/-- One rising edge of `clk` with `rst_n` high: the hidden flops from their values before the edge, and the agents' steps. -/
def clkEdge (r : Option BusReq) (s : State) : Result :=
  match cycleAgents r s with
  | .next t => .next { t with hidden := hiddenNext s.pins.fgIn s.cfg.pwmPeriod s.hidden }
  | .fault f => .fault f
  | .refused x => .refused x

/-- Every state element at its reset value (R290); the input pins, the read data, the inputs still to come and the free-value
counter are the environment's and the model's, and stay. -/
def inReset (s : State) : State :=
  { State.reset with pins := s.pins, busRdata := s.busRdata, script := s.script, freeCount := s.freeCount }

/-- A bus access while `rst_n` is low: "bus writes are ignored and bus reads return the reset values" (R290). -/
def busInReset (r : BusReq) (s : State) : State :=
  match r with
  | .read off => { inReset s with busRdata := memRead off (inReset s) }
  | .write _ _ => inReset s
  | .both _ _ => { inReset s with busRdata := Config.freeRdata s.freeCount, freeCount := s.freeCount + 1 }

/-- What an input does while `rst_n` is low: whatever happens, every state element holds its reset value (R290). -/
def performInReset (e : Input) (s : State) : State :=
  match e with
  | .time t => inReset { s with pins := { s.pins with timeUs := t } }
  | .fg b => inReset { s with pins := { s.pins with fgIn := b } }
  | .rst b => inReset { s with pins := { s.pins with rstN := b } }
  | .edge => inReset s
  | .iterate => inReset s
  | .bus r => busInReset r s
  | .clk none => inReset s
  | .clk (some r) => busInReset r s

/-- What an input does while `rst_n` is high: a pin changes, or one agent takes one atomic step (R6, R69), or one `clk` edge
passes. -/
def performRunning (e : Input) (s : State) : Result :=
  match e with
  | .time t => .next { s with pins := { s.pins with timeUs := t } }
  | .fg b => .next { s with pins := { s.pins with fgIn := b } }
  | .rst true => .next s
  | .rst false => .next (inReset { s with pins := { s.pins with rstN := false } })
  | .edge => .next (increment s)
  | .iterate => .next (iterate s)
  | .bus r => busAccess r s
  | .clk r => clkEdge r s

/-- One input of the outside world. -/
def perform (e : Input) (s : State) : Result :=
  if s.pins.rstN then performRunning e s else .next (performInReset e s)

/-- The next input: the first of those to come; with none to come the environment is quiet and `clk` runs on with no bus access
(log entry 2). -/
def nextInput (s : State) : Input :=
  match s.script with
  | [] => .clk none
  | e :: _ => e

/-- The state with its next input taken off. -/
def dropInput (s : State) : State := { s with script := s.script.tail }

/-- `s` with the command word of `nbits` bits as the very next thing the host writes to `CMD`, and with `rst_n` high so that the
write is taken (log entry 3). -/
def placeCommand (s : State) (nbits w : Nat) : State :=
  { s with pins := { s.pins with rstN := true }, script := .bus (.write 0x00#8 (tableWord nbits w)) :: s.script }

end Sys2Proof.Machine
end

