-- ==== Sys2Proof/Machine/Step.lean ====
section
/-! DEFINITION. One step of the machine: the next input of the outside world is performed. A command is not fetched: it is the
data of a host write to `CMD` (spec/20_memory.md R76), which is one of the inputs. -/

namespace Sys2Proof.Machine

/-- One step: take the next input and perform it. -/
def step (s : State) : Host.Outcome State Fault Refusal := perform (nextInput s) (dropInput s)

/-- `s` with a command word placed so that the very next step issues exactly it. -/
def State.withFetchWord (s : State) (nbits w : Nat) : State := placeCommand s nbits w

end Sys2Proof.Machine
end

