-- ==== Sys2Proof/Safety.lean ====
section
/-! DEFINITION. What a legal state of the WMC is: the invariants of spec/10_state.md R37 with the rules that strengthen them
(spec/44_hold.md R233, spec/40_dispatch.md R126, spec/60_exceptions.md R264, spec/70_reset_and_hazards.md R290), and the
transitions of `SEQ` that spec/40_dispatch.md R130 allows. -/

namespace Sys2Proof.Machine

/-- The states in which the WMC holds the commanded speed at zero (R37 item 8). -/
def commandsZero : Seq → Bool
  | .mvStopOk | .mvStopFail | .hdSettle | .hdWatch | .hdNudgeStop | .brkSettle => true
  | .idle | .mvRun | .hdNudge => false

/-- The states of a hold session. -/
def inHold : Seq → Bool
  | .hdSettle | .hdWatch | .hdNudge | .hdNudgeStop => true
  | .idle | .mvRun | .mvStopOk | .mvStopFail | .brkSettle => false

/-- The states of a move. -/
def inMove : Seq → Bool
  | .mvRun | .mvStopOk | .mvStopFail => true
  | .idle | .hdSettle | .hdWatch | .hdNudge | .hdNudgeStop | .brkSettle => false

/-- The limiter's part of R37 (items 1, 2, 8), with the zero output of `HD_WATCH` (R233) and of a limiter never updated (R164). -/
structure SlewInv (s : State) : Prop where
  currentInRange : s.slew.slCurrent.toNat ≤ Config.fullScale
  targetInRange : s.slew.slTarget.toNat ≤ Config.fullScale
  ratePositive : 1 ≤ s.slew.slRate.toNat
  rateBounded : s.slew.slRate.toNat ≤ 2147483647
  zeroCommanded : commandsZero s.seq = true → s.slew.slTarget = 0
  watchAtRest : s.seq = .hdWatch → s.slew.slCurrent = 0 ∧ s.slew.duty = 0
  restBeforeFirstUpdate : s.slew.slInit = false → s.slew.slCurrent = 0 ∧ s.slew.duty = 0

/-- The latched profiles' part of R37 (items 5, 6, 9), with the bound of R14, the speed and the direction a running operation
has commanded (R195, R201, R235). -/
structure ProfileInv (s : State) : Prop where
  paddingHalf : 2 * s.move.pPadn.toNat ≤ s.move.pTarget.toNat
  targetBounded : s.move.pTarget.toNat ≤ 140737488
  cruiseInRange : s.move.pCruise.toNat ≤ Config.fullScale
  padspdInRange : s.move.pPadspd.toNat ≤ Config.fullScale
  nspdInRange : s.hold.hNspd.toNat ≤ Config.fullScale
  windowCount : s.seq = .mvRun → s.moveRun.wCount.toNat ≤ s.pulse.pcnt.toNat
  runSpeed : s.seq = .mvRun → s.slew.slTarget = s.move.pCruise ∨ s.slew.slTarget = s.move.pPadspd
  moveDirection : inMove s.seq = true → s.dir = s.move.pDir
  nudgeSpeed : s.seq = .hdNudge → s.slew.slTarget = s.hold.hNspd ∧ s.dir = s.hold.hDir

/-- The result bits: cleared while an operation runs, `CAUSE` set exactly by a failure (R25, R122, R126, R264), `ERRC` recorded
exactly when `CMDERR` is set (R123, R26). -/
structure FlagInv (s : State) : Prop where
  runningUnreported : s.seq ≠ .idle → s.flags.done = false ∧ s.flags.result = false
  causeOfFailure : s.seq = .mvStopFail → s.flags.cause ≠ .none
  causeElsewhere : s.seq ≠ .idle → s.seq ≠ .mvStopFail → s.flags.cause = .none
  successNoCause : s.seq = .idle → s.flags.done = true → (s.flags.result = true ↔ s.flags.cause = .none)
  nothingReported : s.flags.done = false → s.flags.result = false
  errorCode : s.flags.cmderr = true ↔ s.flags.errc ≠ .none

/-- A legal state. The last part is R290: while `rst_n` is low every state element holds its reset value. -/
structure Inv (s : State) : Prop where
  slew : SlewInv s
  profile : ProfileInv s
  flags : FlagInv s
  heldInReset : s.pins.rstN = false → s = inReset s

/-- The transitions of `SEQ` an iteration may make (R130). -/
def iterationMayGo : Seq → Seq → Bool
  | .idle, q => q == .idle
  | .mvRun, q => q == .mvRun || q == .mvStopOk || q == .mvStopFail
  | .mvStopOk, q => q == .mvStopOk || q == .idle
  | .mvStopFail, q => q == .mvStopFail || q == .idle
  | .hdSettle, q => q == .hdSettle || q == .hdWatch
  | .hdWatch, q => q == .hdWatch || q == .hdNudge || q == .idle
  | .hdNudge, q => q == .hdNudge || q == .hdNudgeStop
  | .hdNudgeStop, q => q == .hdNudgeStop || q == .hdWatch
  | .brkSettle, q => q == .brkSettle || q == .idle

/-- The transitions of `SEQ` a host access may make (R130): acceptance out of `IDLE`, and none out of a loop state. -/
def acceptanceMayGo : Seq → Seq → Bool
  | .idle, q => q == .idle || q == .mvRun || q == .hdSettle || q == .brkSettle
  | p, q => p == q

/-- Every element the spec gives the machine (R20), the environment's and the model's own fields blanked: two states are equal
here exactly when the hardware is in the same state. -/
def hardwareOf (s : State) : State :=
  { s with pins := State.reset.pins, busRdata := 0, script := [], freeCount := 0 }

end Sys2Proof.Machine
end

