-- ==== Sys2Proof/Certificates/Slice0/Obligations.lean ====
section
/-! DEFINITION. The statements for the provers. A meaning's result is stated as an equation with the whole next state, so that it
is the completion, the result and the frame at once: whatever the equation does not change is unchanged. Numbers are spelled
from the rules, not by calling the function that computes them. -/

open Sys2Proof Sys2Proof.Machine

namespace Sys2Proof.Statements

/-- `w` is the speed operand `v` brought into `[0, FS]` (R11). -/
def ClampedSpeed (v w : Word) : Prop := (w.toNat : Int) = max 0 (min v.toInt 100000000)

/-- `w` is the rate operand `v`, a non-positive one replaced by 1 (R12). -/
def PositiveRate (v w : Word) : Prop := (w.toNat : Int) = if v.toInt ≤ 0 then 1 else v.toInt

/-- `n` is the distance `dist` (signed micrometres) in pulses at `ppm` (unsigned 16.16), rounded to nearest, halves up (R14). -/
def RoundedPulses (dist ppm : Word) (n : Nat) : Prop :=
  (dist.toInt ≤ 0 → n = 0) ∧
  (0 < dist.toInt → n * 65536000000 ≤ dist.toInt.toNat * ppm.toNat + 32768000000 ∧
    dist.toInt.toNat * ppm.toNat + 32768000000 < (n + 1) * 65536000000)

/-- `pad` is the padding count for the target `tgt` when the padding distance is worth `raw` pulses (R194). -/
def ShrunkPadding (tgt raw pad : Nat) : Prop := pad = if 2 * raw > tgt then tgt / 2 else raw

/-- The result bits after an immediate command: success, no cause (R122, R126). -/
def succeeded (f : Flags) : Flags := { f with done := true, result := true, cause := .none }

/-- The result bits after the acceptance of a command that runs on (R122). -/
def accepted (f : Flags) : Flags := { f with done := false, result := false, cause := .none }

/-- The command `i` is refused with `BUSY` outside `IDLE`, and nothing but `CMDERR` and `ERRC` changes (R98, R123). -/
def BusyRefused (i : Instr) : Prop :=
  ∀ s : State, s.seq ≠ .idle →
    exec i s = .next { s with flags := { s.flags with cmderr := true, errc := .busy } }

/-- What accepting a move of positive distance in `s` leaves, with direction `dir` and cruise operand `cruise` (R195). -/
def MoveBegun (s : State) (dir : Bool) (cruise : Word) (t : State) : Prop :=
  ∃ (tgt raw pad : Nat) (cr ps rate : Word),
    RoundedPulses s.opd.mvDist s.cfg.ppm tgt ∧ tgt ≤ 140737488 ∧
    RoundedPulses s.opd.mvPadDist s.cfg.ppm raw ∧ ShrunkPadding tgt raw pad ∧
    ClampedSpeed cruise cr ∧ ClampedSpeed s.opd.mvPadSpeed ps ∧ PositiveRate s.cfg.rateRun rate ∧
    t = { s with
      seq := .mvRun
      flags := accepted s.flags
      dir := dir
      ctrl := { s.ctrl with fgEn := true }
      pulse := { s.pulse with pcnt := 0 }
      slew := { s.slew with slTarget := if 0 < pad then ps else cr, slRate := rate }
      move := { pDir := dir, pTarget := BitVec.ofNat 32 tgt, pCruise := cr, pPadn := BitVec.ofNat 32 pad, pPadspd := ps,
                pTimeout := s.opd.mvTimeout, pStallwin := s.opd.mvStallWin }
      moveRun := { tStart := s.pins.timeUs, wStart := s.pins.timeUs, wCount := 0 } }

/-- The timestamps are in order (R278). -/
def InOrder (ts : List Stamp) : Prop := ts.Pairwise (fun a b => a.toNat ≤ b.toNat)

/-- Inputs that bring no edge event and no reset, and no `clk` edge (whose detector could deliver one). -/
def BringsNoEdge : Input → Prop
  | .time _ | .fg _ | .bus _ | .iterate => True
  | .rst level => level = true
  | .edge | .clk _ => False

/-- The nudge waits: out of reset, in `HD_NUDGE`, with the quota not met (R306). -/
def NudgeWaits (s : State) : Prop :=
  s.pins.rstN = true ∧ s.seq = .hdNudge ∧ s.pulse.pcnt.toNat < s.hold.hQuota.toNat

/-- The input `e` delivers no edge event to `s` and does not reset it: a `clk` edge delivers one exactly when the detector holds a
rise (R36, R144). -/
def DeliversNoEdge (s : State) : Input → Prop
  | .time _ | .fg _ | .bus _ | .iterate => True
  | .rst level => level = true
  | .edge => False
  | .clk _ => ¬ (s.hidden.fgS2 = true ∧ s.hidden.fgPrev = false)

/-- The states of the sequencer that are settle loops (R131). -/
def IsSettle (q : Seq) : Prop :=
  q = .mvStopOk ∨ q = .mvStopFail ∨ q = .hdSettle ∨ q = .hdNudgeStop ∨ q = .brkSettle

end Sys2Proof.Statements

open Sys2Proof.Statements

/-! ### Encoding -/

/-- R96: bits 31:9 first, then the opcode, then bit 8; a word that passes decodes to the command of its opcode and direction. -/
def Obligations.DecodingChecksInOrder : Prop :=
  ∀ w : Word,
    (w.toNat / 512 ≠ 0 → decode w = .refused .rsvd) ∧
    (w.toNat / 512 = 0 → 8 < w.toNat % 256 → decode w = .refused .undef) ∧
    (w.toNat / 512 = 0 → w.toNat % 256 ≤ 8 → w.toNat / 256 % 2 = 1 → w.toNat % 256 ∉ [1, 4, 7] →
      decode w = .refused .rsvd) ∧
    (w.toNat / 512 = 0 → w.toNat % 256 ≤ 8 → (w.toNat / 256 % 2 = 1 → w.toNat % 256 ∈ [1, 4, 7]) →
      ∃ i, decode w = .command i ∧ (opcodeOf i).toNat = w.toNat % 256 ∧
        directionOf i = decide (w.toNat / 256 % 2 = 1))

/-- Decode and encode agree in both directions: a word decodes to a command exactly when it is that command's word (from the
rows of R94 and the decoder of R96). -/
def Obligations.DecodeIffEncode : Prop :=
  ∀ (w : Word) (i : Instr), decode w = .command i ↔ w = encode i

/-- The full words that R94 lists decode to the commands it lists them for. (R94 counts them as thirteen; the list has twelve,
log entry 5.) -/
def Obligations.ListedWordsDecode : Prop :=
  decode 0x00000000#32 = .command .nop ∧ decode 0x00000001#32 = .command (.move false) ∧
  decode 0x00000101#32 = .command (.move true) ∧ decode 0x00000002#32 = .command .wind ∧
  decode 0x00000003#32 = .command .unwind ∧ decode 0x00000004#32 = .command (.hold false) ∧
  decode 0x00000104#32 = .command (.hold true) ∧ decode 0x00000005#32 = .command .brake ∧
  decode 0x00000006#32 = .command .settgt ∧ decode 0x00000007#32 = .command (.setdir false) ∧
  decode 0x00000107#32 = .command (.setdir true) ∧ decode 0x00000008#32 = .command .rdrst

/-! ### Issue and refusal -/

/-- When the next input is a host write to `CMD` whose word decodes to a command, the step is the meaning of that command on the
state with the input taken off; and the word placed by `withFetchWord` (the model's choice of how a command comes to run, log entry 3)
is run by the very next step. -/
def Obligations.StepRunsTheWrittenCommand : Prop :=
  (∀ (s : State) (off : Offset) (w : Word) (i : Instr) (rest : List Input),
    s.script = .bus (.write off w) :: rest → s.pins.rstN = true → off.toNat / 4 = 0 → decode w = .command i →
      step s = exec i { s with script := rest }) ∧
  (∀ (s : State) (i : Instr),
    step (s.withFetchWord 32 (encode i).toNat) = exec i { s with pins := { s.pins with rstN := true } })

/-- R98: a legal word written while `SEQ` is not `IDLE`, NOP included, is refused with `BUSY`; nothing but `CMDERR` and `ERRC`
changes. -/
def Obligations.LegalWordWhileRunningIsBusy : Prop :=
  ∀ (s : State) (off : Offset) (w : Word) (i : Instr),
    s.pins.rstN = true → s.seq ≠ .idle → off.toNat / 4 = 0 → decode w = .command i →
      perform (.bus (.write off w)) s = .next { s with flags := { s.flags with cmderr := true, errc := .busy } }

/-- R97, R99, R123: an illegal word written to `CMD` records its own code in every state of the sequencer, and nothing but
`CMDERR` and `ERRC` changes. -/
def Obligations.IllegalWordRecordsItsCode : Prop :=
  ∀ (s : State) (off : Offset) (w : Word) (c : ErrCode),
    s.pins.rstN = true → off.toNat / 4 = 0 → decode w = .refused c →
      (c = .undef ∨ c = .rsvd) ∧
      perform (.bus (.write off w)) s = .next { s with flags := { s.flags with cmderr := true, errc := c } }

/-- R260: nothing faults and nothing is refused by the model; every step answers a next state. -/
def Obligations.EveryStepAnswersNext : Prop := ∀ s : State, ∃ t, step s = .next t

/-! ### The commands -/

/-- R125: the word 0 is NOP, which reports success and changes nothing else; outside `IDLE` it is refused. -/
def Obligations.NopReportsSuccessOnly : Prop :=
  decode 0x00000000#32 = .command .nop ∧
  (∀ s : State, s.seq = .idle → exec .nop s = .next { s with flags := succeeded s.flags }) ∧
  BusyRefused .nop ∧
  ∃ t, exec .nop State.reset = .next t ∧ memRead 0x04#8 t = 0x00000106#32

/-- R172: SETTGT records the clamped speed and the positive rate, reports success, and moves nothing. -/
def Obligations.SettgtRecordsTargetAndRate : Prop :=
  decode 0x00000006#32 = .command .settgt ∧
  (∀ s : State, s.seq = .idle → ∃ tgt rate : Word,
    ClampedSpeed s.opd.slArgSpeed tgt ∧ PositiveRate s.opd.slArgRate rate ∧
    exec .settgt s = .next { s with
      flags := succeeded s.flags, slew := { s.slew with slTarget := tgt, slRate := rate } }) ∧
  BusyRefused .settgt

/-- R173: BRAKE commands zero at the braking rate, goes to `BRK_SETTLE` and has not completed. -/
def Obligations.BrakeCommandsZeroAndSettles : Prop :=
  decode 0x00000005#32 = .command .brake ∧
  (∀ s : State, s.seq = .idle → ∃ rate : Word,
    PositiveRate s.cfg.rateBrake rate ∧
    exec .brake s = .next { s with
      seq := .brkSettle, flags := accepted s.flags, slew := { s.slew with slTarget := 0, slRate := rate } }) ∧
  BusyRefused .brake

/-- R174: SETDIR sets the direction line to `D`, whatever the speed, and reports success. -/
def Obligations.SetdirSetsTheDirectionLine : Prop :=
  decode 0x00000007#32 = .command (.setdir false) ∧ decode 0x00000107#32 = .command (.setdir true) ∧
  (∀ (s : State) (d : Bool), s.seq = .idle →
    exec (.setdir d) s = .next { s with flags := succeeded s.flags, dir := d }) ∧
  ∀ d : Bool, BusyRefused (.setdir d)

/-- R146: RDRST captures the count, zeroes it, enables the edge source and reports success. -/
def Obligations.RdrstCapturesAndClears : Prop :=
  decode 0x00000008#32 = .command .rdrst ∧
  (∀ s : State, s.seq = .idle →
    exec .rdrst s = .next { s with
      flags := succeeded s.flags
      pulse := { pcnt := 0, pcap := s.pulse.pcnt }
      ctrl := { s.ctrl with fgEn := true } }) ∧
  BusyRefused .rdrst

/-- The idempotence sentence of R72: two captures with no edge between them leave zero captured. -/
def Obligations.SecondCaptureYieldsZero : Prop :=
  ∀ s : State, s.seq = .idle → ∃ t u, exec .rdrst s = .next t ∧ exec .rdrst t = .next u ∧ t.pulse.pcap = s.pulse.pcnt ∧
    u.pulse.pcap = 0 ∧ u.pulse.pcnt = 0

/-- R191 with R195, R194 and R14: MOVE of a positive distance latches the profile, resets the counter, sets the direction,
commands the padding speed or the cruise speed, starts both timers and enters `MV_RUN`. -/
def Obligations.MoveBeginsARun : Prop :=
  (∀ (s : State) (d : Bool), s.seq = .idle → 0 < s.opd.mvDist.toInt →
    ∃ t, exec (.move d) s = .next t ∧ MoveBegun s d s.opd.mvCruise t) ∧
  ∀ d : Bool, BusyRefused (.move d)

/-- R192, R193: WIND and UNWIND of a positive distance are moves in the direction `WIND_DIR` and its complement, at
`WIND_CRUISE` and `UNWIND_CRUISE`; `MV_CRUISE` is not used. -/
def Obligations.WindAndUnwindBeginRuns : Prop :=
  (∀ s : State, s.seq = .idle → 0 < s.opd.mvDist.toInt →
    (∃ t, exec .wind s = .next t ∧ MoveBegun s s.ctrl.windDir s.cfg.windCruise t) ∧
    (∃ t, exec .unwind s = .next t ∧ MoveBegun s (!s.ctrl.windDir) s.cfg.unwindCruise t)) ∧
  BusyRefused .wind ∧ BusyRefused .unwind

/-- R196: with a non-positive distance MOVE, WIND and UNWIND succeed at once and change nothing but the result bits; a positive
distance is not trivial, even where it rounds to 0 pulses. -/
def Obligations.NonPositiveDistanceIsTrivial : Prop :=
  ∀ (s : State) (i : Instr), s.seq = .idle → (i = .wind ∨ i = .unwind ∨ ∃ d, i = .move d) →
    (s.opd.mvDist.toInt ≤ 0 → exec i s = .next { s with flags := succeeded s.flags }) ∧
    (0 < s.opd.mvDist.toInt → ∃ t, exec i s = .next t ∧ t.seq = .mvRun ∧ t.pulse.pcnt = 0 ∧ t.ctrl.fgEn = true ∧
      (RoundedPulses s.opd.mvDist s.cfg.ppm 0 → t.move.pTarget = 0))

/-- R231: HOLD latches its profile, clears the nudge count, brakes and settles; the direction line is not touched. -/
def Obligations.HoldBeginsWithASettle : Prop :=
  (∀ (s : State) (d : Bool), s.seq = .idle → ∃ spd rate : Word,
    ClampedSpeed s.opd.hdNudgeSpeed spd ∧ PositiveRate s.cfg.rateBrake rate ∧
    exec (.hold d) s = .next { s with
      seq := .hdSettle
      flags := accepted s.flags
      slew := { s.slew with slTarget := 0, slRate := rate }
      hold := { hDur := s.opd.hdDuration, hDir := d, hNspd := spd, hDb := s.opd.hdDeadband, hQuota := s.opd.hdQuota,
                hGap := s.opd.hdMinGap }
      holdRun := { s.holdRun with nudgeCnt := 0 } }) ∧
  ∀ d : Bool, BusyRefused (.hold d)

/-! ### The pulse counter and the limiter -/

/-- R141, R142: an edge event adds one to the count, saturating at `2^32 - 1`, when the source is enabled, and changes nothing
when it is suspended. -/
def Obligations.EdgeCountsOnceWhenEnabled : Prop :=
  ∀ s : State, s.pins.rstN = true →
    (s.ctrl.fgEn = true → ∃ n : Word, n.toNat = min (s.pulse.pcnt.toNat + 1) 4294967295 ∧
      perform .edge s = .next { s with pulse := { s.pulse with pcnt := n } }) ∧
    (s.ctrl.fgEn = false → perform .edge s = .next s)

/-- R163: an update moves the speed toward the target by at most rate times elapsed time, snapping onto it, records the time and
writes the duty; the first one after reset records the time only (speeds in range, which R37 item 1 says always holds). -/
def Obligations.UpdateStepsTowardTheTarget : Prop :=
  ∀ (s : State) (now : Stamp), s.slew.slCurrent.toNat ≤ 100000000 → s.slew.slTarget.toNat ≤ 100000000 →
    ∃ (cur : Word) (duty : Half),
      duty.toNat = cur.toNat * s.cfg.pwmPeriod.toNat / 100000000 ∧
      update now s = { s with
        slew := { s.slew with slCurrent := cur, slLast := now, slInit := true, duty := duty } } ∧
      (s.slew.slInit = false → cur = s.slew.slCurrent) ∧
      (s.slew.slInit = true → (cur.toNat : Int) =
        if s.slew.slCurrent.toNat ≤ s.slew.slTarget.toNat then
          min (s.slew.slTarget.toNat : Int) (s.slew.slCurrent.toNat + s.slew.slRate.toNat * (now - s.slew.slLast).toNat)
        else
          max (s.slew.slTarget.toNat : Int) (s.slew.slCurrent.toNat - s.slew.slRate.toNat * (now - s.slew.slLast).toNat))

/-- R168 properties 1 and 2: an update leaves the speed in `[0, FS]`, between where it was and the target, and changes it by at
most rate times elapsed time. -/
def Obligations.UpdateIsRateLimited : Prop :=
  ∀ (s : State) (now : Stamp), s.slew.slCurrent.toNat ≤ 100000000 → s.slew.slTarget.toNat ≤ 100000000 →
    (update now s).slew.slCurrent.toNat ≤ 100000000 ∧
    min s.slew.slCurrent.toNat s.slew.slTarget.toNat ≤ (update now s).slew.slCurrent.toNat ∧
    (update now s).slew.slCurrent.toNat ≤ max s.slew.slCurrent.toNat s.slew.slTarget.toNat ∧
    (((update now s).slew.slCurrent.toNat : Int) - s.slew.slCurrent.toNat).natAbs ≤
      s.slew.slRate.toNat * (now - s.slew.slLast).toNat

/-- R168 property 3, for any schedule of updates: whatever updates come before, the update at `t` leaves the state that this one
update alone would have left. -/
def Obligations.RampIgnoresTheSchedule : Prop :=
  ∀ (s : State) (ts : List Stamp) (t : Stamp), s.slew.slInit = true → InOrder (s.slew.slLast :: (ts ++ [t])) →
    (ts ++ [t]).foldl (fun a now => update now a) s = update t s

/-- R168 property 4: a ramp is complete at an update exactly when rate times the time elapsed covers the gap. -/
def Obligations.RampEndsWhenTimeCoversTheGap : Prop :=
  ∀ (s : State) (now : Stamp), s.slew.slInit = true →
    ((update now s).slew.slCurrent = s.slew.slTarget ↔
      ((s.slew.slTarget.toNat : Int) - s.slew.slCurrent.toNat).natAbs ≤
        s.slew.slRate.toNat * (now - s.slew.slLast).toNat)

/-- R16, for a speed in range: the duty is the floor of speed times period over `FS`, at most the period, 0 exactly when the
product is below `FS`, and (for a period above 0, where the rule's sentence holds, log entry 5) the period exactly at `FS`. -/
def Obligations.DutyIsTheScaledSpeed : Prop :=
  ∀ (cur : Word) (p : Half), cur.toNat ≤ 100000000 →
    (dutyOf cur p).toNat * 100000000 ≤ cur.toNat * p.toNat ∧
    cur.toNat * p.toNat < ((dutyOf cur p).toNat + 1) * 100000000 ∧
    (dutyOf cur p).toNat ≤ p.toNat ∧
    (dutyOf cur p = 0 ↔ cur.toNat * p.toNat < 100000000) ∧
    (0 < p.toNat → (dutyOf cur p = p ↔ cur.toNat = 100000000))

/-- R14: `pulses_of` rounds the distance to pulses, halves up, is 0 for a non-positive distance, and is at most 140 737 488. -/
def Obligations.PulsesRoundHalfUp : Prop :=
  ∀ dist ppm : Word, RoundedPulses dist ppm (pulsesOf dist ppm) ∧ pulsesOf dist ppm ≤ 140737488

/-- R194: the padding count is that of the padding distance, shrunk to half the target when twice it would exceed it; twice the
result never exceeds the target. -/
def Obligations.PaddingIsAtMostHalf : Prop :=
  ∀ (tgt : Nat) (d ppm : Word), ∃ raw, RoundedPulses d ppm raw ∧ ShrunkPadding tgt raw (paddingOf tgt d ppm) ∧
    2 * paddingOf tgt d ppm ≤ tgt

/-- R200: below the target, the padding speed in the first `P_PADN` counts and in the last `P_PADN - 1`, else the cruise speed. -/
def Obligations.ProfileHasThreeZones : Prop :=
  ∀ (p : MoveProfile) (c : Word), c.toNat < p.pTarget.toNat →
    (c.toNat < p.pPadn.toNat → profile p c = p.pPadspd) ∧
    (p.pTarget.toNat < c.toNat + p.pPadn.toNat → profile p c = p.pPadspd) ∧
    (p.pPadn.toNat ≤ c.toNat → c.toNat + p.pPadn.toNat ≤ p.pTarget.toNat → profile p c = p.pCruise)

/-- R203: `min_pulses` is the largest minimum among the bands whose bound the speed reaches, 0 if there is none, and does not fall
as the speed rises. -/
def Obligations.MinPulsesIsTheLargestBand : Prop :=
  ∀ (t : StallTable) (s : Word),
    (∀ b ∈ [(t.thr0, t.min0), (t.thr1, t.min1), (t.thr2, t.min2), (t.thr3, t.min3)],
      b.1.toNat ≤ s.toNat → b.2.toNat ≤ minPulses t s) ∧
    (minPulses t s = 0 ∨
      ∃ b ∈ [(t.thr0, t.min0), (t.thr1, t.min1), (t.thr2, t.min2), (t.thr3, t.min3)],
        b.1.toNat ≤ s.toNat ∧ minPulses t s = b.2.toNat) ∧
    (∀ s' : Word, s.toNat ≤ s'.toNat → minPulses t s ≤ minPulses t s')

/-! ### The iterations -/

/-- R129: the `IDLE` iteration is one update and nothing else. -/
def Obligations.IdleIterationOnlyUpdates : Prop :=
  ∀ s : State, s.pins.rstN = true → s.seq = .idle → perform .iterate s = .next (update s.pins.timeUs s)

/-- R198: the iteration that finds the target reached brakes and goes to `MV_STOP_OK`; it makes no update and tests neither the
stall window nor the timeout. -/
def Obligations.TargetReachedBrakes : Prop :=
  ∀ s : State, s.pins.rstN = true → s.seq = .mvRun → s.move.pTarget.toNat ≤ s.pulse.pcnt.toNat →
    ∃ rate, PositiveRate s.cfg.rateBrake rate ∧
      perform .iterate s = .next { s with
        seq := .mvStopOk, slew := { s.slew with slTarget := 0, slRate := rate } }

/-- R197 below the target: update, speed command beyond the tolerance, then stall before timeout before going on. The premises
on the profile's speeds are R37 item 6. -/
def Obligations.MoveIterationTestsInOrder : Prop :=
  ∀ (s u : State) (now : Stamp) (wanted : Word),
    s.pins.rstN = true → s.seq = .mvRun → s.pulse.pcnt.toNat < s.move.pTarget.toNat →
    s.move.pCruise.toNat ≤ 100000000 → s.move.pPadspd.toNat ≤ 100000000 →
    now = s.pins.timeUs → u = update now s → wanted = profile s.move s.pulse.pcnt →
    ∃ (spd rate brk : Word) (run : MoveRun),
      (s.cfg.cmdTol.toNat < ((wanted.toNat : Int) - s.slew.slTarget.toNat).natAbs →
        spd = wanted ∧ PositiveRate s.cfg.rateRun rate) ∧
      (((wanted.toNat : Int) - s.slew.slTarget.toNat).natAbs ≤ s.cfg.cmdTol.toNat →
        spd = s.slew.slTarget ∧ rate = s.slew.slRate) ∧
      PositiveRate s.cfg.rateBrake brk ∧
      run = (if s.move.pStallwin.toNat ≤ (now - s.moveRun.wStart).toNat then
        { s.moveRun with wStart := now, wCount := s.pulse.pcnt } else s.moveRun) ∧
      (if s.move.pStallwin.toNat ≤ (now - s.moveRun.wStart).toNat ∧
          (s.pulse.pcnt.toNat : Int) - s.moveRun.wCount.toNat < minPulses s.stall spd then
        perform .iterate s = .next { u with
          seq := .mvStopFail
          flags := { u.flags with cause := .stall }
          slew := { u.slew with slTarget := 0, slRate := brk } }
      else if s.move.pTimeout.toNat < (now - s.moveRun.tStart).toNat then
        perform .iterate s = .next { u with
          seq := .mvStopFail
          flags := { u.flags with cause := .timeout }
          slew := { u.slew with slTarget := 0, slRate := brk }
          moveRun := run }
      else
        perform .iterate s = .next { u with
          slew := { u.slew with slTarget := spd, slRate := rate }
          moveRun := run })

/-- R266: the failure entry records the cause, brakes and goes to `MV_STOP_FAIL`; the count, the profile, the direction, the speed
and `DONE` are kept. -/
def Obligations.FailureEntrySavesTheCause : Prop :=
  ∀ (c : Cause) (s : State), ∃ rate, PositiveRate s.cfg.rateBrake rate ∧
    raiseFailure c s = { s with
      seq := .mvStopFail
      flags := { s.flags with cause := c }
      slew := { s.slew with slTarget := 0, slRate := rate } }

/-- R175, R207, R208, in a legal state: each settle iteration of a brake or a move updates, and in the first one that finds the
speed at 0 reports success (`BRK_SETTLE`, `MV_STOP_OK`) or failure (`MV_STOP_FAIL`), with the commanded speed and the duty at 0
and `CAUSE` 0 exactly on success. -/
def Obligations.SettleReportsTheOutcome : Prop :=
  ∀ (s u : State) (ok : Bool), Inv s → s.pins.rstN = true → u = update s.pins.timeUs s →
    (ok = true ∧ (s.seq = .mvStopOk ∨ s.seq = .brkSettle)) ∨ (ok = false ∧ s.seq = .mvStopFail) →
    (u.slew.slCurrent ≠ 0 → perform .iterate s = .next u) ∧
    (u.slew.slCurrent = 0 →
      perform .iterate s = .next { u with seq := .idle, flags := { s.flags with done := true, result := ok } } ∧
      u.slew.slTarget = 0 ∧ u.slew.duty = 0 ∧ (s.flags.cause = .none ↔ ok = true))

/-- R232, R237: the settle iterations of a hold update, and in the first one that finds the speed at 0 reset the counter, record
the time and go to `HD_WATCH`; only the first settle of the session starts the duration. -/
def Obligations.HoldSettleBeginsTheWatch : Prop :=
  ∀ s u : State, s.pins.rstN = true → u = update s.pins.timeUs s → (s.seq = .hdSettle ∨ s.seq = .hdNudgeStop) →
    (u.slew.slCurrent ≠ 0 → perform .iterate s = .next u) ∧
    (u.slew.slCurrent = 0 →
      perform .iterate s = .next { u with
        seq := .hdWatch
        ctrl := { s.ctrl with fgEn := true }
        pulse := { s.pulse with pcnt := 0 }
        holdRun := { s.holdRun with
          hStart := if s.seq = .hdSettle then s.pins.timeUs else s.holdRun.hStart
          nLast := s.pins.timeUs } })

/-- R131, for any schedule of iterations: a settle loop stays while rate times the time since the brake's `SL_LAST` is short of the
speed, and is left, with the speed at exactly 0, in the first iteration where it is not. -/
def Obligations.SettleLoopLastsTheRamp : Prop :=
  ∀ (s m : State) (ts : List Stamp) (t : Stamp),
    IsSettle s.seq → s.slew.slTarget = 0 → s.slew.slInit = true → InOrder (s.slew.slLast :: (ts ++ [t])) →
    (∀ x ∈ ts, s.slew.slRate.toNat * (x - s.slew.slLast).toNat < s.slew.slCurrent.toNat) →
    m = ts.foldl (fun a now => iterateAt now a) s →
    m.seq = s.seq ∧
    (s.slew.slRate.toNat * (t - s.slew.slLast).toNat < s.slew.slCurrent.toNat → (iterateAt t m).seq = s.seq) ∧
    (s.slew.slCurrent.toNat ≤ s.slew.slRate.toNat * (t - s.slew.slLast).toNat →
      ((iterateAt t m).seq = .idle ∨ (iterateAt t m).seq = .hdWatch) ∧ (iterateAt t m).slew.slCurrent = 0)

/-- R233 with R234, R235, R238: the watch iteration first ends the hold when its duration is over, with no update; else it
updates, and starts a nudge exactly when the count exceeds the deadband and the gap has elapsed. -/
def Obligations.WatchIterationRule : Prop :=
  ∀ s u : State, s.pins.rstN = true → s.seq = .hdWatch → s.hold.hNspd.toNat ≤ 100000000 →
    u = update s.pins.timeUs s →
    ∃ (rate nudges : Word), PositiveRate s.cfg.rateRun rate ∧
      nudges.toNat = min (s.holdRun.nudgeCnt.toNat + 1) 4294967295 ∧
      (if s.hold.hDur.toNat ≤ (s.pins.timeUs - s.holdRun.hStart).toNat then
        perform .iterate s = .next { s with seq := .idle, flags := { s.flags with done := true, result := true } }
      else if s.hold.hDb.toNat < s.pulse.pcnt.toNat ∧
          s.hold.hGap.toNat ≤ (s.pins.timeUs - s.holdRun.nLast).toNat then
        perform .iterate s = .next { u with
          seq := .hdNudge
          dir := s.hold.hDir
          ctrl := { s.ctrl with fgEn := true }
          pulse := { s.pulse with pcnt := 0 }
          slew := { u.slew with slTarget := s.hold.hNspd, slRate := rate }
          holdRun := { s.holdRun with nudgeCnt := nudges } }
      else perform .iterate s = .next u)

/-- R236: the nudge iteration brakes when the count is at or above the quota, with no update; else it updates. Neither the
duration nor any timeout is looked at. -/
def Obligations.NudgeIterationRule : Prop :=
  ∀ s : State, s.pins.rstN = true → s.seq = .hdNudge →
    ∃ rate, PositiveRate s.cfg.rateBrake rate ∧
      (if s.hold.hQuota.toNat ≤ s.pulse.pcnt.toNat then
        perform .iterate s = .next { s with
          seq := .hdNudgeStop, slew := { s.slew with slTarget := 0, slRate := rate } }
      else perform .iterate s = .next (update s.pins.timeUs s))

/-- R306, R132: with the quota not met, no sequence of inputs without an edge event and without reset (iterations, the advance of
time, host accesses of any kind) ends the nudge. A `clk` edge is left out, because its detector could deliver an edge event. -/
def Obligations.NudgeWaitNeedsEdges : Prop :=
  ∀ (es : List Input) (s : State),
    s.pins.rstN = true → s.seq = .hdNudge → s.pulse.pcnt.toNat < s.hold.hQuota.toNat → (∀ e ∈ es, BringsNoEdge e) →
    ∃ t, Sys2Proof.core.run es.length { s with script := es } = .next t ∧ t.seq = .hdNudge ∧ t.pulse.pcnt = s.pulse.pcnt ∧
      t.flags.done = s.flags.done

/-- R306, R132, as an invariant of every step, `clk` edges included: a step whose input delivers no edge event and does not reset
keeps the nudge waiting. (That a step with no input left is a `clk` edge is the model's choice, log entry 2.) -/
def Obligations.EdgelessStepsKeepTheNudge : Prop :=
  ∀ s t : State, NudgeWaits s → DeliversNoEdge s (nextInput s) → step s = .next t → NudgeWaits t

/-- R230: a hold never fails: an iteration of a legal state that ends a hold session reports success with no cause. -/
def Obligations.HoldAlwaysReportsSuccess : Prop :=
  ∀ s t : State, Inv s → s.pins.rstN = true → inHold s.seq = true → perform .iterate s = .next t → inHold t.seq = false →
    t.seq = .idle ∧ t.flags.done = true ∧ t.flags.result = true ∧ t.flags.cause = .none

/-! ### The whole machine -/

/-- R293, R23: while an operation runs, no host access of any kind changes the sequencer, the latched profiles, the run state, the
limiter, the direction, the count or the result bits. -/
def Obligations.HostCannotDisturbAnOperation : Prop :=
  ∀ (s : State) (r : BusReq), s.seq ≠ .idle →
    ∃ t, busAccess r s = .next t ∧ t.seq = s.seq ∧ t.move = s.move ∧ t.moveRun = s.moveRun ∧ t.hold = s.hold ∧
      t.holdRun = s.holdRun ∧ t.slew = s.slew ∧ t.dir = s.dir ∧ t.pulse = s.pulse ∧ t.flags.done = s.flags.done ∧
      t.flags.result = s.flags.result ∧ t.flags.cause = s.flags.cause

/-- R130: the sequencer moves only along the table, an iteration along the iteration rows, a host access only out of `IDLE`, an
edge event not at all, reset to `IDLE`. The time and the FG line change no element of the WMC, only their pin (R6, R20; that the
pins are fields of State is the model's choice, log entry 1). -/
def Obligations.SequencerFollowsTheTable : Prop :=
  ∀ s : State, s.pins.rstN = true →
    (∃ t, perform .iterate s = .next t ∧ iterationMayGo s.seq t.seq = true) ∧
    (∀ r, ∃ t, perform (.bus r) s = .next t ∧ acceptanceMayGo s.seq t.seq = true) ∧
    (∃ t, perform .edge s = .next t ∧ t.seq = s.seq) ∧
    (∀ x, ∃ t, perform (.time x) s = .next t ∧ t.seq = s.seq ∧ hardwareOf t = hardwareOf s ∧
      t.pins = { s.pins with timeUs := x }) ∧
    (∀ b, ∃ t, perform (.fg b) s = .next t ∧ t.seq = s.seq ∧ hardwareOf t = hardwareOf s ∧
      t.pins = { s.pins with fgIn := b }) ∧
    (∃ t, perform (.rst false) s = .next t ∧ t.seq = .idle)

/-- R37: the state after reset is legal. -/
def Obligations.ResetStateIsLegal : Prop := Inv State.reset

/-- R37: every step of a legal state leaves a legal state: speeds and rate in range, padding at most half the target, latched
speeds in range, zero commanded in the settle and watch states, the window count behind the counter, the result bits
consistent with the sequencer, every element at its reset value while `rst_n` is low. -/
def Obligations.EveryStepKeepsLegality : Prop := ∀ s t : State, Inv s → step s = .next t → Inv t

/-- R29: "never decremented except by explicit reset-to-zero": whatever input comes, the count afterwards is at least what it
was, or 0. -/
def Obligations.CountFallsOnlyToZero : Prop :=
  ∀ (s : State) (e : Input), ∃ t, perform e s = .next t ∧ (s.pulse.pcnt.toNat ≤ t.pulse.pcnt.toNat ∨ t.pulse.pcnt = 0)

/-- R74: the Edge agent writes nothing but `PCNT`; the Host agent never writes `SL_CURRENT`, `DUTY`, `SL_LAST` or `SL_INIT`, never
raises the count, and never writes the direction line but by an accepted command. -/
def Obligations.OutputsHaveOneWriter : Prop :=
  ∀ s : State, s.pins.rstN = true →
    (∃ n, perform .edge s = .next { s with pulse := { s.pulse with pcnt := n } }) ∧
    (∀ r, ∃ t, perform (.bus r) s = .next t ∧ t.slew.slCurrent = s.slew.slCurrent ∧ t.slew.duty = s.slew.duty ∧
      t.slew.slLast = s.slew.slLast ∧ t.slew.slInit = s.slew.slInit ∧
      (t.pulse.pcnt = s.pulse.pcnt ∨ t.pulse.pcnt = 0) ∧ (s.seq ≠ .idle → t.dir = s.dir))

/-! ### The register space -/

/-- R63, R62: a host read puts the word on `bus_rdata` (the model's own field, log entry 1) and changes no state, and the two low bits of the offset do not matter. -/
def Obligations.ReadChangesNothing : Prop :=
  ∀ (s : State) (off : Offset), s.pins.rstN = true →
    perform (.bus (.read off)) s = .next { s with busRdata := memRead (off &&& 0xFC#8) s }

/-- R63, R66, R91: what a read returns at every offset of the map but `STATUS` (its word is stated by its fields) and the reserved
ones (stated with the writes they ignore): the named element, whatever the two low bits of the offset. -/
def Obligations.EveryOffsetReadsItsElement : Prop :=
  ∀ (s : State) (off : Offset),
    ∀ p ∈ [(0x00#8, 0#32), (0x08#8, BitVec.ofNat 32 (2 * s.ctrl.windDir.toNat + s.ctrl.fgEn.toNat)),
        (0x0C#8, s.pulse.pcnt), (0x10#8, s.pulse.pcap),
        (0x14#8, s.slew.slCurrent), (0x18#8, s.slew.slTarget), (0x1C#8, s.slew.slRate),
        (0x20#8, BitVec.ofNat 32 s.slew.duty.toNat), (0x24#8, BitVec.ofNat 32 s.cfg.pwmPeriod.toNat),
        (0x28#8, s.cfg.ppm), (0x2C#8, s.cfg.rateRun), (0x30#8, s.cfg.rateBrake), (0x34#8, s.cfg.cmdTol),
        (0x38#8, s.cfg.atEps), (0x3C#8, s.cfg.windCruise), (0x40#8, s.cfg.unwindCruise),
        (0x44#8, s.opd.mvDist), (0x48#8, s.opd.mvCruise), (0x4C#8, s.opd.mvTimeout), (0x50#8, s.opd.mvPadDist),
        (0x54#8, s.opd.mvPadSpeed), (0x58#8, s.opd.mvStallWin),
        (0x5C#8, s.opd.hdDuration), (0x60#8, s.opd.hdNudgeSpeed), (0x64#8, s.opd.hdDeadband), (0x68#8, s.opd.hdQuota),
        (0x6C#8, s.opd.hdMinGap), (0x70#8, s.opd.slArgSpeed), (0x74#8, s.opd.slArgRate),
        (0x80#8, s.stall.thr0), (0x84#8, s.stall.thr1), (0x88#8, s.stall.thr2), (0x8C#8, s.stall.thr3),
        (0x90#8, s.stall.min0), (0x94#8, s.stall.min1), (0x98#8, s.stall.min2), (0x9C#8, s.stall.min3),
        (0xA0#8, s.move.pTarget), (0xA4#8, s.move.pPadn), (0xA8#8, s.holdRun.nudgeCnt)],
      off &&& 0xFC#8 = p.1 → memRead off s = p.2

/-- R26: the fields of the word a read of `STATUS` returns, at their places. -/
def Obligations.StatusWordHasItsFields : Prop :=
  ∀ (s : State) (w : Word), w = memRead 0x04#8 s →
    w.getLsbD 0 = decide (s.seq ≠ .idle) ∧ w.getLsbD 1 = s.flags.done ∧ w.getLsbD 2 = s.flags.result ∧
    [Cause.none, .stall, .timeout][(w.extractLsb' 3 2).toNat]? = some s.flags.cause ∧
    w.getLsbD 5 = s.flags.cmderr ∧
    [ErrCode.none, .busy, .undef, .rsvd][(w.extractLsb' 6 2).toNat]? = some s.flags.errc ∧
    w.getLsbD 8 =
      decide (((s.slew.slCurrent.toNat : Int) - s.slew.slTarget.toNat).natAbs ≤ s.cfg.atEps.toNat) ∧
    w.getLsbD 9 = s.slew.slInit ∧ w.getLsbD 10 = s.dir ∧ w.getLsbD 11 = false ∧
    [Seq.idle, .mvRun, .mvStopOk, .mvStopFail, .hdSettle, .hdWatch, .hdNudge, .hdNudgeStop, .brkSettle][
      (w.extractLsb' 12 4).toNat]? = some s.seq ∧
    w.extractLsb' 16 16 = 0

/-- R26, R292: right after reset `STATUS` reads `0x00000100`. -/
def Obligations.StatusAfterReset : Prop := memRead 0x04#8 State.reset = 0x00000100#32

/-- R26, R64: a write of `STATUS` with bit 5 set clears `CMDERR` and `ERRC`, and any other write of it does nothing. -/
def Obligations.StatusWriteClearsTheError : Prop :=
  ∀ (s : State) (off : Offset) (v : Word), s.pins.rstN = true → off.toNat / 4 = 1 →
    (v.getLsbD 5 = true →
      perform (.bus (.write off v)) s = .next { s with flags := { s.flags with cmderr := false, errc := .none } }) ∧
    (v.getLsbD 5 = false → perform (.bus (.write off v)) s = .next s)

/-- R64, R66, R27, R28: a write of a read-write register is read back whole (its low 16 bits for `PWM_PERIOD`, its low 2 for
`CTRL`), and leaves what every other offset reads, but for `STATUS`, as it was. -/
def Obligations.WritableRegistersReadBack : Prop :=
  ∀ (s : State) (off : Offset) (v : Word), s.pins.rstN = true →
    (off.toNat / 4 = 2 ∨ (9 ≤ off.toNat / 4 ∧ off.toNat / 4 ≤ 0x1D) ∨ (0x20 ≤ off.toNat / 4 ∧ off.toNat / 4 ≤ 0x27)) →
    ∃ t, perform (.bus (.write off v)) s = .next t ∧
      memRead off t = (if off.toNat / 4 = 2 then v &&& 3#32 else if off.toNat / 4 = 9 then v &&& 0xFFFF#32 else v) ∧
      (∀ a : Offset, a.toNat / 4 ≠ off.toNat / 4 → a.toNat / 4 ≠ 1 → memRead a t = memRead a s) ∧
      t = { s with ctrl := t.ctrl, cfg := t.cfg, opd := t.opd, stall := t.stall }

/-- R67, R64: reserved offsets read 0, and a write at a reserved offset or to a read-only register does nothing. -/
def Obligations.ReservedAndReadOnlyIgnoreWrites : Prop :=
  ∀ (s : State) (off : Offset) (v : Word), s.pins.rstN = true →
    ((off.toNat / 4 = 0x1E ∨ off.toNat / 4 = 0x1F ∨ 0x2B ≤ off.toNat / 4) →
      memRead off s = 0 ∧ perform (.bus (.write off v)) s = .next s) ∧
    (((3 ≤ off.toNat / 4 ∧ off.toNat / 4 ≤ 8) ∨ (0x28 ≤ off.toNat / 4 ∧ off.toNat / 4 ≤ 0x2A)) →
      perform (.bus (.write off v)) s = .next s)

/-! ### Reset and the clock -/

/-- R38: the reset value of every state element. -/
def Obligations.ResetLeavesTheListedValues : Prop :=
  ∀ s : State, s.pins.rstN = true → ∃ t, perform (.rst false) s = .next t ∧
    t.seq = .idle ∧ t.flags.done = false ∧ t.flags.result = false ∧ t.flags.cmderr = false ∧ t.slew.slInit = false ∧
    t.dir = false ∧ t.flags.cause = .none ∧ t.flags.errc = .none ∧ t.ctrl.fgEn = false ∧ t.ctrl.windDir = false ∧
    t.pulse.pcnt = 0 ∧ t.pulse.pcap = 0 ∧ t.slew.slCurrent = 0 ∧ t.slew.slTarget = 0 ∧ t.slew.slRate = 1 ∧
    t.slew.slLast = 0 ∧ t.slew.duty = 0 ∧
    t.cfg = ⟨0, 0, 0, 0, 0, 0, 0, 0⟩ ∧ t.opd = ⟨0, 0, 0, 0, 0, 0, 0, 0, 0, 0, 0, 0, 0⟩ ∧
    t.stall = ⟨15000000, 0xFFFFFFFF, 0xFFFFFFFF, 0xFFFFFFFF, 1, 0, 0, 0⟩ ∧
    t.move = ⟨false, 0, 0, 0, 0, 0, 0⟩ ∧ t.moveRun = ⟨0, 0, 0⟩ ∧ t.hold = ⟨0, false, 0, 0, 0, 0⟩ ∧
    t.holdRun = ⟨0, 0, 0⟩ ∧ t.hidden = ⟨true, true, true, 0⟩ ∧
    pwmOut t = false ∧ dirOut t = false ∧ busy t = false ∧ doneOut t = false

/-- R290: while `rst_n` is low every element holds its reset value whatever input comes, and a read returns the reset value. -/
def Obligations.ResetHoldsWhileAsserted : Prop :=
  ∀ (s : State) (e : Input), s.pins.rstN = false →
    (∃ t, perform e s = .next t ∧ hardwareOf t = hardwareOf State.reset) ∧
    (∀ off, ∃ t, perform (.bus (.read off)) s = .next t ∧ t.busRdata = memRead off State.reset)

/-- R70: in one clock cycle the edge event (if the detector delivers one), then the host access (if there is one), then the
iteration are applied, each to the state the one before left, all at the same time; the hidden flops take their values from before
the cycle (R36). Two clauses are the model's choice: a read of `PCNT` in the cycle of an edge event sees that edge, R70 against R320
(log entry 7); and `pwmNext`, with the period from before the cycle and a counter above a smaller period going to 0 (log entry 4). -/
def Obligations.ClockCycleOrdersTheAgents : Prop :=
  ∀ (s : State) (r : Option BusReq), s.pins.rstN = true →
    ∃ a b c, (if s.hidden.fgS2 = true ∧ s.hidden.fgPrev = false then perform .edge s = .next a else a = s) ∧
      (∀ q, r = some q → perform (.bus q) a = .next b) ∧ (r = none → b = a) ∧
      perform .iterate b = .next c ∧ c.pins = s.pins ∧
      perform (.clk r) s = .next { c with
        hidden := { fgS1 := s.pins.fgIn, fgS2 := s.hidden.fgS1, fgPrev := s.hidden.fgS2,
                    pwmCnt := pwmNext s.hidden.pwmCnt s.cfg.pwmPeriod } } ∧
      pwmNext s.hidden.pwmCnt s.cfg.pwmPeriod =
        if s.hidden.pwmCnt.toNat + 1 < s.cfg.pwmPeriod.toNat then s.hidden.pwmCnt + 1 else 0

/-- R265: an edge event that brings the count to the target in the clock cycle of the iteration is applied first, and that
iteration ends the move by success, whatever its window and its timeout say. -/
def Obligations.EdgeAtTheTargetWins : Prop :=
  ∀ s : State, s.pins.rstN = true → s.seq = .mvRun → s.ctrl.fgEn = true → s.hidden.fgS2 = true → s.hidden.fgPrev = false →
    s.pulse.pcnt.toNat + 1 = s.move.pTarget.toNat →
    ∃ t, perform (.clk none) s = .next t ∧ t.seq = .mvStopOk ∧ t.pulse.pcnt = s.move.pTarget ∧
      t.flags = s.flags ∧ t.slew.slTarget = 0 ∧ t.slew.slCurrent = s.slew.slCurrent

/-- R71, R70: an edge event in the clock cycle of an RDRST is ordered before it: it is in the captured count, and the new count is
zero. -/
def Obligations.EdgeDuringCaptureIsCaptured : Prop :=
  ∀ s : State, s.pins.rstN = true → s.seq = .idle → s.ctrl.fgEn = true → s.hidden.fgS2 = true → s.hidden.fgPrev = false →
    s.pulse.pcnt.toNat < 4294967295 →
    ∃ t, perform (.clk (some (.write 0x00#8 0x00000008#32))) s = .next t ∧ t.pulse.pcap.toNat = s.pulse.pcnt.toNat + 1 ∧
      t.pulse.pcnt = 0 ∧ t.flags.done = true ∧ t.flags.result = true

/-- R36, R144: a rise of `fg_in` seen by the synchroniser at rest low becomes one edge event at the third rising `clk` edge, and
only one. That a step with no input left is such a clock edge is the model's choice (log entry 2). -/
def Obligations.RiseIsCountedAtTheThirdClock : Prop :=
  ∀ s : State, s.pins.rstN = true → s.seq = .idle → s.ctrl.fgEn = true → s.script = [] → s.pins.fgIn = true →
    s.hidden.fgS1 = false → s.hidden.fgS2 = false → s.hidden.fgPrev = false → s.pulse.pcnt.toNat < 4294967295 →
    ∃ a b c d, step s = .next a ∧ step a = .next b ∧ step b = .next c ∧ step c = .next d ∧
      a.pulse.pcnt = s.pulse.pcnt ∧ b.pulse.pcnt = s.pulse.pcnt ∧ c.pulse.pcnt.toNat = s.pulse.pcnt.toNat + 1 ∧
      d.pulse.pcnt = c.pulse.pcnt

/-- R36, R21: from 0 the waveform counter counts `0 .. PWM_PERIOD - 1` and returns to 0, and `pwm_out` is high for `DUTY` of every
`PWM_PERIOD` counts. -/
def Obligations.WaveformIsHighForDuty : Prop :=
  ∀ (s : State) (p : Half), 0 < p.toNat → s.slew.duty.toNat ≤ p.toNat →
    (fun c => pwmNext c p)^[p.toNat] 0 = 0 ∧
    (∀ k < p.toNat, ((fun c => pwmNext c p)^[k] 0).toNat = k) ∧
    ((List.range p.toNat).filter (fun k =>
      pwmOut { s with hidden := { s.hidden with pwmCnt := (fun c => pwmNext c p)^[k] 0 } })).length = s.slew.duty.toNat
end

