-- ==== Sys2Proof/Laws/State.lean ====
section
/-! SUPPORT. One lemma per field and per operation of Machine/Ops.lean, so that no proof unfolds a record update: what each
operation leaves in each component of the state. All are true by `rfl`. -/

namespace Sys2Proof.Machine


/-! ### `prologue` -/

@[simp] theorem prologue_seq (s : State) : (prologue s).seq = s.seq := rfl
@[simp] theorem prologue_flags (s : State) : (prologue s).flags = { s.flags with done := false, result := false, cause := .none } := rfl
@[simp] theorem prologue_dir (s : State) : (prologue s).dir = s.dir := rfl
@[simp] theorem prologue_ctrl (s : State) : (prologue s).ctrl = s.ctrl := rfl
@[simp] theorem prologue_cfg (s : State) : (prologue s).cfg = s.cfg := rfl
@[simp] theorem prologue_opd (s : State) : (prologue s).opd = s.opd := rfl
@[simp] theorem prologue_stall (s : State) : (prologue s).stall = s.stall := rfl
@[simp] theorem prologue_pulse (s : State) : (prologue s).pulse = s.pulse := rfl
@[simp] theorem prologue_slew (s : State) : (prologue s).slew = s.slew := rfl
@[simp] theorem prologue_move (s : State) : (prologue s).move = s.move := rfl
@[simp] theorem prologue_moveRun (s : State) : (prologue s).moveRun = s.moveRun := rfl
@[simp] theorem prologue_hold (s : State) : (prologue s).hold = s.hold := rfl
@[simp] theorem prologue_holdRun (s : State) : (prologue s).holdRun = s.holdRun := rfl
@[simp] theorem prologue_hidden (s : State) : (prologue s).hidden = s.hidden := rfl
@[simp] theorem prologue_pins (s : State) : (prologue s).pins = s.pins := rfl
@[simp] theorem prologue_busRdata (s : State) : (prologue s).busRdata = s.busRdata := rfl
@[simp] theorem prologue_script (s : State) : (prologue s).script = s.script := rfl
@[simp] theorem prologue_freeCount (s : State) : (prologue s).freeCount = s.freeCount := rfl

/-! ### `refuse` -/

@[simp] theorem refuse_seq (c : ErrCode) (s : State) : (refuse c s).seq = s.seq := rfl
@[simp] theorem refuse_flags (c : ErrCode) (s : State) : (refuse c s).flags = { s.flags with cmderr := true, errc := c } := rfl
@[simp] theorem refuse_dir (c : ErrCode) (s : State) : (refuse c s).dir = s.dir := rfl
@[simp] theorem refuse_ctrl (c : ErrCode) (s : State) : (refuse c s).ctrl = s.ctrl := rfl
@[simp] theorem refuse_cfg (c : ErrCode) (s : State) : (refuse c s).cfg = s.cfg := rfl
@[simp] theorem refuse_opd (c : ErrCode) (s : State) : (refuse c s).opd = s.opd := rfl
@[simp] theorem refuse_stall (c : ErrCode) (s : State) : (refuse c s).stall = s.stall := rfl
@[simp] theorem refuse_pulse (c : ErrCode) (s : State) : (refuse c s).pulse = s.pulse := rfl
@[simp] theorem refuse_slew (c : ErrCode) (s : State) : (refuse c s).slew = s.slew := rfl
@[simp] theorem refuse_move (c : ErrCode) (s : State) : (refuse c s).move = s.move := rfl
@[simp] theorem refuse_moveRun (c : ErrCode) (s : State) : (refuse c s).moveRun = s.moveRun := rfl
@[simp] theorem refuse_hold (c : ErrCode) (s : State) : (refuse c s).hold = s.hold := rfl
@[simp] theorem refuse_holdRun (c : ErrCode) (s : State) : (refuse c s).holdRun = s.holdRun := rfl
@[simp] theorem refuse_hidden (c : ErrCode) (s : State) : (refuse c s).hidden = s.hidden := rfl
@[simp] theorem refuse_pins (c : ErrCode) (s : State) : (refuse c s).pins = s.pins := rfl
@[simp] theorem refuse_busRdata (c : ErrCode) (s : State) : (refuse c s).busRdata = s.busRdata := rfl
@[simp] theorem refuse_script (c : ErrCode) (s : State) : (refuse c s).script = s.script := rfl
@[simp] theorem refuse_freeCount (c : ErrCode) (s : State) : (refuse c s).freeCount = s.freeCount := rfl

/-! ### `complete` -/

@[simp] theorem complete_seq (r : Bool) (s : State) : (complete r s).seq = .idle := rfl
@[simp] theorem complete_flags (r : Bool) (s : State) : (complete r s).flags = { s.flags with done := true, result := r } := rfl
@[simp] theorem complete_dir (r : Bool) (s : State) : (complete r s).dir = s.dir := rfl
@[simp] theorem complete_ctrl (r : Bool) (s : State) : (complete r s).ctrl = s.ctrl := rfl
@[simp] theorem complete_cfg (r : Bool) (s : State) : (complete r s).cfg = s.cfg := rfl
@[simp] theorem complete_opd (r : Bool) (s : State) : (complete r s).opd = s.opd := rfl
@[simp] theorem complete_stall (r : Bool) (s : State) : (complete r s).stall = s.stall := rfl
@[simp] theorem complete_pulse (r : Bool) (s : State) : (complete r s).pulse = s.pulse := rfl
@[simp] theorem complete_slew (r : Bool) (s : State) : (complete r s).slew = s.slew := rfl
@[simp] theorem complete_move (r : Bool) (s : State) : (complete r s).move = s.move := rfl
@[simp] theorem complete_moveRun (r : Bool) (s : State) : (complete r s).moveRun = s.moveRun := rfl
@[simp] theorem complete_hold (r : Bool) (s : State) : (complete r s).hold = s.hold := rfl
@[simp] theorem complete_holdRun (r : Bool) (s : State) : (complete r s).holdRun = s.holdRun := rfl
@[simp] theorem complete_hidden (r : Bool) (s : State) : (complete r s).hidden = s.hidden := rfl
@[simp] theorem complete_pins (r : Bool) (s : State) : (complete r s).pins = s.pins := rfl
@[simp] theorem complete_busRdata (r : Bool) (s : State) : (complete r s).busRdata = s.busRdata := rfl
@[simp] theorem complete_script (r : Bool) (s : State) : (complete r s).script = s.script := rfl
@[simp] theorem complete_freeCount (r : Bool) (s : State) : (complete r s).freeCount = s.freeCount := rfl

/-! ### `resetCounter` -/

@[simp] theorem resetCounter_seq (s : State) : (resetCounter s).seq = s.seq := rfl
@[simp] theorem resetCounter_flags (s : State) : (resetCounter s).flags = s.flags := rfl
@[simp] theorem resetCounter_dir (s : State) : (resetCounter s).dir = s.dir := rfl
@[simp] theorem resetCounter_ctrl (s : State) : (resetCounter s).ctrl = { s.ctrl with fgEn := true } := rfl
@[simp] theorem resetCounter_cfg (s : State) : (resetCounter s).cfg = s.cfg := rfl
@[simp] theorem resetCounter_opd (s : State) : (resetCounter s).opd = s.opd := rfl
@[simp] theorem resetCounter_stall (s : State) : (resetCounter s).stall = s.stall := rfl
@[simp] theorem resetCounter_pulse (s : State) : (resetCounter s).pulse = { s.pulse with pcnt := 0 } := rfl
@[simp] theorem resetCounter_slew (s : State) : (resetCounter s).slew = s.slew := rfl
@[simp] theorem resetCounter_move (s : State) : (resetCounter s).move = s.move := rfl
@[simp] theorem resetCounter_moveRun (s : State) : (resetCounter s).moveRun = s.moveRun := rfl
@[simp] theorem resetCounter_hold (s : State) : (resetCounter s).hold = s.hold := rfl
@[simp] theorem resetCounter_holdRun (s : State) : (resetCounter s).holdRun = s.holdRun := rfl
@[simp] theorem resetCounter_hidden (s : State) : (resetCounter s).hidden = s.hidden := rfl
@[simp] theorem resetCounter_pins (s : State) : (resetCounter s).pins = s.pins := rfl
@[simp] theorem resetCounter_busRdata (s : State) : (resetCounter s).busRdata = s.busRdata := rfl
@[simp] theorem resetCounter_script (s : State) : (resetCounter s).script = s.script := rfl
@[simp] theorem resetCounter_freeCount (s : State) : (resetCounter s).freeCount = s.freeCount := rfl

/-! ### `readAndReset` -/

@[simp] theorem readAndReset_seq (s : State) : (readAndReset s).seq = s.seq := rfl
@[simp] theorem readAndReset_flags (s : State) : (readAndReset s).flags = s.flags := rfl
@[simp] theorem readAndReset_dir (s : State) : (readAndReset s).dir = s.dir := rfl
@[simp] theorem readAndReset_ctrl (s : State) : (readAndReset s).ctrl = { s.ctrl with fgEn := true } := rfl
@[simp] theorem readAndReset_cfg (s : State) : (readAndReset s).cfg = s.cfg := rfl
@[simp] theorem readAndReset_opd (s : State) : (readAndReset s).opd = s.opd := rfl
@[simp] theorem readAndReset_stall (s : State) : (readAndReset s).stall = s.stall := rfl
@[simp] theorem readAndReset_pulse (s : State) : (readAndReset s).pulse = { pcnt := 0, pcap := s.pulse.pcnt } := rfl
@[simp] theorem readAndReset_slew (s : State) : (readAndReset s).slew = s.slew := rfl
@[simp] theorem readAndReset_move (s : State) : (readAndReset s).move = s.move := rfl
@[simp] theorem readAndReset_moveRun (s : State) : (readAndReset s).moveRun = s.moveRun := rfl
@[simp] theorem readAndReset_hold (s : State) : (readAndReset s).hold = s.hold := rfl
@[simp] theorem readAndReset_holdRun (s : State) : (readAndReset s).holdRun = s.holdRun := rfl
@[simp] theorem readAndReset_hidden (s : State) : (readAndReset s).hidden = s.hidden := rfl
@[simp] theorem readAndReset_pins (s : State) : (readAndReset s).pins = s.pins := rfl
@[simp] theorem readAndReset_busRdata (s : State) : (readAndReset s).busRdata = s.busRdata := rfl
@[simp] theorem readAndReset_script (s : State) : (readAndReset s).script = s.script := rfl
@[simp] theorem readAndReset_freeCount (s : State) : (readAndReset s).freeCount = s.freeCount := rfl

/-! ### `setTarget` -/

@[simp] theorem setTarget_seq (v r : Word) (s : State) : (setTarget v r s).seq = s.seq := rfl
@[simp] theorem setTarget_flags (v r : Word) (s : State) : (setTarget v r s).flags = s.flags := rfl
@[simp] theorem setTarget_dir (v r : Word) (s : State) : (setTarget v r s).dir = s.dir := rfl
@[simp] theorem setTarget_ctrl (v r : Word) (s : State) : (setTarget v r s).ctrl = s.ctrl := rfl
@[simp] theorem setTarget_cfg (v r : Word) (s : State) : (setTarget v r s).cfg = s.cfg := rfl
@[simp] theorem setTarget_opd (v r : Word) (s : State) : (setTarget v r s).opd = s.opd := rfl
@[simp] theorem setTarget_stall (v r : Word) (s : State) : (setTarget v r s).stall = s.stall := rfl
@[simp] theorem setTarget_pulse (v r : Word) (s : State) : (setTarget v r s).pulse = s.pulse := rfl
@[simp] theorem setTarget_slew (v r : Word) (s : State) : (setTarget v r s).slew = { s.slew with slTarget := speedOf v, slRate := rateOf r } := rfl
@[simp] theorem setTarget_move (v r : Word) (s : State) : (setTarget v r s).move = s.move := rfl
@[simp] theorem setTarget_moveRun (v r : Word) (s : State) : (setTarget v r s).moveRun = s.moveRun := rfl
@[simp] theorem setTarget_hold (v r : Word) (s : State) : (setTarget v r s).hold = s.hold := rfl
@[simp] theorem setTarget_holdRun (v r : Word) (s : State) : (setTarget v r s).holdRun = s.holdRun := rfl
@[simp] theorem setTarget_hidden (v r : Word) (s : State) : (setTarget v r s).hidden = s.hidden := rfl
@[simp] theorem setTarget_pins (v r : Word) (s : State) : (setTarget v r s).pins = s.pins := rfl
@[simp] theorem setTarget_busRdata (v r : Word) (s : State) : (setTarget v r s).busRdata = s.busRdata := rfl
@[simp] theorem setTarget_script (v r : Word) (s : State) : (setTarget v r s).script = s.script := rfl
@[simp] theorem setTarget_freeCount (v r : Word) (s : State) : (setTarget v r s).freeCount = s.freeCount := rfl

/-! ### `brake` -/

@[simp] theorem brake_seq (s : State) : (brake s).seq = s.seq := rfl
@[simp] theorem brake_flags (s : State) : (brake s).flags = s.flags := rfl
@[simp] theorem brake_dir (s : State) : (brake s).dir = s.dir := rfl
@[simp] theorem brake_ctrl (s : State) : (brake s).ctrl = s.ctrl := rfl
@[simp] theorem brake_cfg (s : State) : (brake s).cfg = s.cfg := rfl
@[simp] theorem brake_opd (s : State) : (brake s).opd = s.opd := rfl
@[simp] theorem brake_stall (s : State) : (brake s).stall = s.stall := rfl
@[simp] theorem brake_pulse (s : State) : (brake s).pulse = s.pulse := rfl
@[simp] theorem brake_slew (s : State) : (brake s).slew = { s.slew with slTarget := speedOf 0, slRate := rateOf s.cfg.rateBrake } := rfl
@[simp] theorem brake_move (s : State) : (brake s).move = s.move := rfl
@[simp] theorem brake_moveRun (s : State) : (brake s).moveRun = s.moveRun := rfl
@[simp] theorem brake_hold (s : State) : (brake s).hold = s.hold := rfl
@[simp] theorem brake_holdRun (s : State) : (brake s).holdRun = s.holdRun := rfl
@[simp] theorem brake_hidden (s : State) : (brake s).hidden = s.hidden := rfl
@[simp] theorem brake_pins (s : State) : (brake s).pins = s.pins := rfl
@[simp] theorem brake_busRdata (s : State) : (brake s).busRdata = s.busRdata := rfl
@[simp] theorem brake_script (s : State) : (brake s).script = s.script := rfl
@[simp] theorem brake_freeCount (s : State) : (brake s).freeCount = s.freeCount := rfl

/-! ### `setDir` -/

@[simp] theorem setDir_seq (d : Bool) (s : State) : (setDir d s).seq = s.seq := rfl
@[simp] theorem setDir_flags (d : Bool) (s : State) : (setDir d s).flags = s.flags := rfl
@[simp] theorem setDir_dir (d : Bool) (s : State) : (setDir d s).dir = d := rfl
@[simp] theorem setDir_ctrl (d : Bool) (s : State) : (setDir d s).ctrl = s.ctrl := rfl
@[simp] theorem setDir_cfg (d : Bool) (s : State) : (setDir d s).cfg = s.cfg := rfl
@[simp] theorem setDir_opd (d : Bool) (s : State) : (setDir d s).opd = s.opd := rfl
@[simp] theorem setDir_stall (d : Bool) (s : State) : (setDir d s).stall = s.stall := rfl
@[simp] theorem setDir_pulse (d : Bool) (s : State) : (setDir d s).pulse = s.pulse := rfl
@[simp] theorem setDir_slew (d : Bool) (s : State) : (setDir d s).slew = s.slew := rfl
@[simp] theorem setDir_move (d : Bool) (s : State) : (setDir d s).move = s.move := rfl
@[simp] theorem setDir_moveRun (d : Bool) (s : State) : (setDir d s).moveRun = s.moveRun := rfl
@[simp] theorem setDir_hold (d : Bool) (s : State) : (setDir d s).hold = s.hold := rfl
@[simp] theorem setDir_holdRun (d : Bool) (s : State) : (setDir d s).holdRun = s.holdRun := rfl
@[simp] theorem setDir_hidden (d : Bool) (s : State) : (setDir d s).hidden = s.hidden := rfl
@[simp] theorem setDir_pins (d : Bool) (s : State) : (setDir d s).pins = s.pins := rfl
@[simp] theorem setDir_busRdata (d : Bool) (s : State) : (setDir d s).busRdata = s.busRdata := rfl
@[simp] theorem setDir_script (d : Bool) (s : State) : (setDir d s).script = s.script := rfl
@[simp] theorem setDir_freeCount (d : Bool) (s : State) : (setDir d s).freeCount = s.freeCount := rfl

/-! ### `goto` -/

@[simp] theorem goto_seq (q : Seq) (s : State) : (goto q s).seq = q := rfl
@[simp] theorem goto_flags (q : Seq) (s : State) : (goto q s).flags = s.flags := rfl
@[simp] theorem goto_dir (q : Seq) (s : State) : (goto q s).dir = s.dir := rfl
@[simp] theorem goto_ctrl (q : Seq) (s : State) : (goto q s).ctrl = s.ctrl := rfl
@[simp] theorem goto_cfg (q : Seq) (s : State) : (goto q s).cfg = s.cfg := rfl
@[simp] theorem goto_opd (q : Seq) (s : State) : (goto q s).opd = s.opd := rfl
@[simp] theorem goto_stall (q : Seq) (s : State) : (goto q s).stall = s.stall := rfl
@[simp] theorem goto_pulse (q : Seq) (s : State) : (goto q s).pulse = s.pulse := rfl
@[simp] theorem goto_slew (q : Seq) (s : State) : (goto q s).slew = s.slew := rfl
@[simp] theorem goto_move (q : Seq) (s : State) : (goto q s).move = s.move := rfl
@[simp] theorem goto_moveRun (q : Seq) (s : State) : (goto q s).moveRun = s.moveRun := rfl
@[simp] theorem goto_hold (q : Seq) (s : State) : (goto q s).hold = s.hold := rfl
@[simp] theorem goto_holdRun (q : Seq) (s : State) : (goto q s).holdRun = s.holdRun := rfl
@[simp] theorem goto_hidden (q : Seq) (s : State) : (goto q s).hidden = s.hidden := rfl
@[simp] theorem goto_pins (q : Seq) (s : State) : (goto q s).pins = s.pins := rfl
@[simp] theorem goto_busRdata (q : Seq) (s : State) : (goto q s).busRdata = s.busRdata := rfl
@[simp] theorem goto_script (q : Seq) (s : State) : (goto q s).script = s.script := rfl
@[simp] theorem goto_freeCount (q : Seq) (s : State) : (goto q s).freeCount = s.freeCount := rfl

/-! ### `update` -/

@[simp] theorem update_seq (now : Stamp) (s : State) : (update now s).seq = s.seq := rfl
@[simp] theorem update_flags (now : Stamp) (s : State) : (update now s).flags = s.flags := rfl
@[simp] theorem update_dir (now : Stamp) (s : State) : (update now s).dir = s.dir := rfl
@[simp] theorem update_ctrl (now : Stamp) (s : State) : (update now s).ctrl = s.ctrl := rfl
@[simp] theorem update_cfg (now : Stamp) (s : State) : (update now s).cfg = s.cfg := rfl
@[simp] theorem update_opd (now : Stamp) (s : State) : (update now s).opd = s.opd := rfl
@[simp] theorem update_stall (now : Stamp) (s : State) : (update now s).stall = s.stall := rfl
@[simp] theorem update_pulse (now : Stamp) (s : State) : (update now s).pulse = s.pulse := rfl
@[simp] theorem update_slew (now : Stamp) (s : State) : (update now s).slew = { slewAdvance now s.slew with duty := dutyOf (slewAdvance now s.slew).slCurrent s.cfg.pwmPeriod } := rfl
@[simp] theorem update_move (now : Stamp) (s : State) : (update now s).move = s.move := rfl
@[simp] theorem update_moveRun (now : Stamp) (s : State) : (update now s).moveRun = s.moveRun := rfl
@[simp] theorem update_hold (now : Stamp) (s : State) : (update now s).hold = s.hold := rfl
@[simp] theorem update_holdRun (now : Stamp) (s : State) : (update now s).holdRun = s.holdRun := rfl
@[simp] theorem update_hidden (now : Stamp) (s : State) : (update now s).hidden = s.hidden := rfl
@[simp] theorem update_pins (now : Stamp) (s : State) : (update now s).pins = s.pins := rfl
@[simp] theorem update_busRdata (now : Stamp) (s : State) : (update now s).busRdata = s.busRdata := rfl
@[simp] theorem update_script (now : Stamp) (s : State) : (update now s).script = s.script := rfl
@[simp] theorem update_freeCount (now : Stamp) (s : State) : (update now s).freeCount = s.freeCount := rfl

/-! ### `raiseFailure` -/

@[simp] theorem raiseFailure_seq (c : Cause) (s : State) : (raiseFailure c s).seq = .mvStopFail := rfl
@[simp] theorem raiseFailure_flags (c : Cause) (s : State) : (raiseFailure c s).flags = { s.flags with cause := c } := rfl
@[simp] theorem raiseFailure_dir (c : Cause) (s : State) : (raiseFailure c s).dir = s.dir := rfl
@[simp] theorem raiseFailure_ctrl (c : Cause) (s : State) : (raiseFailure c s).ctrl = s.ctrl := rfl
@[simp] theorem raiseFailure_cfg (c : Cause) (s : State) : (raiseFailure c s).cfg = s.cfg := rfl
@[simp] theorem raiseFailure_opd (c : Cause) (s : State) : (raiseFailure c s).opd = s.opd := rfl
@[simp] theorem raiseFailure_stall (c : Cause) (s : State) : (raiseFailure c s).stall = s.stall := rfl
@[simp] theorem raiseFailure_pulse (c : Cause) (s : State) : (raiseFailure c s).pulse = s.pulse := rfl
@[simp] theorem raiseFailure_slew (c : Cause) (s : State) : (raiseFailure c s).slew = { s.slew with slTarget := speedOf 0, slRate := rateOf s.cfg.rateBrake } := rfl
@[simp] theorem raiseFailure_move (c : Cause) (s : State) : (raiseFailure c s).move = s.move := rfl
@[simp] theorem raiseFailure_moveRun (c : Cause) (s : State) : (raiseFailure c s).moveRun = s.moveRun := rfl
@[simp] theorem raiseFailure_hold (c : Cause) (s : State) : (raiseFailure c s).hold = s.hold := rfl
@[simp] theorem raiseFailure_holdRun (c : Cause) (s : State) : (raiseFailure c s).holdRun = s.holdRun := rfl
@[simp] theorem raiseFailure_hidden (c : Cause) (s : State) : (raiseFailure c s).hidden = s.hidden := rfl
@[simp] theorem raiseFailure_pins (c : Cause) (s : State) : (raiseFailure c s).pins = s.pins := rfl
@[simp] theorem raiseFailure_busRdata (c : Cause) (s : State) : (raiseFailure c s).busRdata = s.busRdata := rfl
@[simp] theorem raiseFailure_script (c : Cause) (s : State) : (raiseFailure c s).script = s.script := rfl
@[simp] theorem raiseFailure_freeCount (c : Cause) (s : State) : (raiseFailure c s).freeCount = s.freeCount := rfl

/-! ### `inReset` -/

@[simp] theorem inReset_seq (s : State) : (inReset s).seq = State.reset.seq := rfl
@[simp] theorem inReset_flags (s : State) : (inReset s).flags = State.reset.flags := rfl
@[simp] theorem inReset_dir (s : State) : (inReset s).dir = State.reset.dir := rfl
@[simp] theorem inReset_ctrl (s : State) : (inReset s).ctrl = State.reset.ctrl := rfl
@[simp] theorem inReset_cfg (s : State) : (inReset s).cfg = State.reset.cfg := rfl
@[simp] theorem inReset_opd (s : State) : (inReset s).opd = State.reset.opd := rfl
@[simp] theorem inReset_stall (s : State) : (inReset s).stall = State.reset.stall := rfl
@[simp] theorem inReset_pulse (s : State) : (inReset s).pulse = State.reset.pulse := rfl
@[simp] theorem inReset_slew (s : State) : (inReset s).slew = State.reset.slew := rfl
@[simp] theorem inReset_move (s : State) : (inReset s).move = State.reset.move := rfl
@[simp] theorem inReset_moveRun (s : State) : (inReset s).moveRun = State.reset.moveRun := rfl
@[simp] theorem inReset_hold (s : State) : (inReset s).hold = State.reset.hold := rfl
@[simp] theorem inReset_holdRun (s : State) : (inReset s).holdRun = State.reset.holdRun := rfl
@[simp] theorem inReset_hidden (s : State) : (inReset s).hidden = State.reset.hidden := rfl
@[simp] theorem inReset_pins (s : State) : (inReset s).pins = s.pins := rfl
@[simp] theorem inReset_busRdata (s : State) : (inReset s).busRdata = s.busRdata := rfl
@[simp] theorem inReset_script (s : State) : (inReset s).script = s.script := rfl
@[simp] theorem inReset_freeCount (s : State) : (inReset s).freeCount = s.freeCount := rfl

/-! ### `dropInput` -/

@[simp] theorem dropInput_seq (s : State) : (dropInput s).seq = s.seq := rfl
@[simp] theorem dropInput_flags (s : State) : (dropInput s).flags = s.flags := rfl
@[simp] theorem dropInput_dir (s : State) : (dropInput s).dir = s.dir := rfl
@[simp] theorem dropInput_ctrl (s : State) : (dropInput s).ctrl = s.ctrl := rfl
@[simp] theorem dropInput_cfg (s : State) : (dropInput s).cfg = s.cfg := rfl
@[simp] theorem dropInput_opd (s : State) : (dropInput s).opd = s.opd := rfl
@[simp] theorem dropInput_stall (s : State) : (dropInput s).stall = s.stall := rfl
@[simp] theorem dropInput_pulse (s : State) : (dropInput s).pulse = s.pulse := rfl
@[simp] theorem dropInput_slew (s : State) : (dropInput s).slew = s.slew := rfl
@[simp] theorem dropInput_move (s : State) : (dropInput s).move = s.move := rfl
@[simp] theorem dropInput_moveRun (s : State) : (dropInput s).moveRun = s.moveRun := rfl
@[simp] theorem dropInput_hold (s : State) : (dropInput s).hold = s.hold := rfl
@[simp] theorem dropInput_holdRun (s : State) : (dropInput s).holdRun = s.holdRun := rfl
@[simp] theorem dropInput_hidden (s : State) : (dropInput s).hidden = s.hidden := rfl
@[simp] theorem dropInput_pins (s : State) : (dropInput s).pins = s.pins := rfl
@[simp] theorem dropInput_busRdata (s : State) : (dropInput s).busRdata = s.busRdata := rfl
@[simp] theorem dropInput_script (s : State) : (dropInput s).script = s.script.tail := rfl
@[simp] theorem dropInput_freeCount (s : State) : (dropInput s).freeCount = s.freeCount := rfl

/-! ### `increment`, which changes the counter only -/

@[simp] theorem increment_seq (s : State) : (increment s).seq = s.seq := by
  unfold increment; split <;> rfl
@[simp] theorem increment_flags (s : State) : (increment s).flags = s.flags := by
  unfold increment; split <;> rfl
@[simp] theorem increment_dir (s : State) : (increment s).dir = s.dir := by
  unfold increment; split <;> rfl
@[simp] theorem increment_ctrl (s : State) : (increment s).ctrl = s.ctrl := by
  unfold increment; split <;> rfl
@[simp] theorem increment_cfg (s : State) : (increment s).cfg = s.cfg := by
  unfold increment; split <;> rfl
@[simp] theorem increment_opd (s : State) : (increment s).opd = s.opd := by
  unfold increment; split <;> rfl
@[simp] theorem increment_stall (s : State) : (increment s).stall = s.stall := by
  unfold increment; split <;> rfl
@[simp] theorem increment_slew (s : State) : (increment s).slew = s.slew := by
  unfold increment; split <;> rfl
@[simp] theorem increment_move (s : State) : (increment s).move = s.move := by
  unfold increment; split <;> rfl
@[simp] theorem increment_moveRun (s : State) : (increment s).moveRun = s.moveRun := by
  unfold increment; split <;> rfl
@[simp] theorem increment_hold (s : State) : (increment s).hold = s.hold := by
  unfold increment; split <;> rfl
@[simp] theorem increment_holdRun (s : State) : (increment s).holdRun = s.holdRun := by
  unfold increment; split <;> rfl
@[simp] theorem increment_hidden (s : State) : (increment s).hidden = s.hidden := by
  unfold increment; split <;> rfl
@[simp] theorem increment_pins (s : State) : (increment s).pins = s.pins := by
  unfold increment; split <;> rfl
@[simp] theorem increment_busRdata (s : State) : (increment s).busRdata = s.busRdata := by
  unfold increment; split <;> rfl
@[simp] theorem increment_script (s : State) : (increment s).script = s.script := by
  unfold increment; split <;> rfl
@[simp] theorem increment_freeCount (s : State) : (increment s).freeCount = s.freeCount := by
  unfold increment; split <;> rfl
@[simp] theorem increment_pulse (s : State) :
    (increment s).pulse = if s.ctrl.fgEn then { s.pulse with pcnt := satInc s.pulse.pcnt } else s.pulse := by
  unfold increment; split <;> rfl


end Sys2Proof.Machine
end

