-- ==== Sys2Proof/Laws/Operands.lean ====
section
/-! SUPPORT. What the operand conversions and the arithmetic of Machine/Operands.lean give, one lemma per function. -/

namespace Sys2Proof.Machine

theorem clamp_bounds (v lo hi : Int) (h : lo ≤ hi) : lo ≤ clamp v lo hi ∧ clamp v lo hi ≤ hi := by
  unfold clamp; split <;> (try split) <;> omega

theorem clamp_of_mem (v lo hi : Int) (h₁ : lo ≤ v) (h₂ : v ≤ hi) : clamp v lo hi = v := by
  unfold clamp; split <;> (try split) <;> omega

/-- The value of a clamped speed operand, as an integer (R11). -/
theorem speedOf_value (v : Word) : ((speedOf v).toNat : Int) = clamp v.toInt 0 Config.fullScale := by
  have h := clamp_bounds v.toInt 0 Config.fullScale (by decide)
  have hf : (Config.fullScale : Int) = 100000000 := rfl
  unfold speedOf
  rw [BitVec.toNat_ofInt]
  omega

/-- A speed operand is always brought into `[0, FS]` (R11). -/
theorem speedOf_le (v : Word) : (speedOf v).toNat ≤ Config.fullScale := by
  have h := clamp_bounds v.toInt 0 Config.fullScale (by decide)
  have := speedOf_value v
  omega

/-- A speed already in range is not changed by clamping it again (R201: the profile speeds were clamped when latched). -/
theorem speedOf_of_le (v : Word) (h : v.toNat ≤ Config.fullScale) : speedOf v = v := by
  have hf : Config.fullScale = 100000000 := rfl
  have hi : v.toInt = v.toNat := by rw [BitVec.toInt_eq_toNat_cond]; split <;> omega
  have := speedOf_value v
  rw [clamp_of_mem _ _ _ (by omega) (by omega)] at this
  exact BitVec.eq_of_toNat_eq (by omega)

@[simp] theorem speedOf_zero : speedOf 0#32 = 0#32 := by decide

/-- The value of a rate operand, as an integer (R12). -/
theorem rateOf_value (v : Word) : ((rateOf v).toNat : Int) = if v.toInt ≤ 0 then 1 else v.toInt := by
  unfold rateOf
  by_cases h : v.toInt ≤ 0
  · simp [h, Config.rateMin]
  · have := BitVec.toInt_eq_toNat_cond v
    rw [if_neg h, if_neg h]
    split at this <;> omega

/-- A ramp rate is always in `[1, 2^31 - 1]` (R12). -/
theorem rateOf_bounds (v : Word) : 1 ≤ (rateOf v).toNat ∧ (rateOf v).toNat ≤ 2147483647 := by
  have h := rateOf_value v
  have := BitVec.toInt_lt (x := v)
  split at h <;> omega

/-- `pulses_of` never exceeds 140 737 488, so it fits 32 bits (R14). -/
theorem pulsesOf_le (dist ppm : Word) : pulsesOf dist ppm ≤ 140737488 := by
  unfold pulsesOf
  split
  · omega
  · have hd : dist.toInt.toNat ≤ 2147483647 := by have := BitVec.toInt_lt (x := dist); omega
    have hp : ppm.toNat ≤ 4294967295 := by omega
    have hm := Nat.mul_le_mul hd hp
    simp only [Config.pulseDen]
    omega

/-- The padding count is at most half the target (R194). -/
theorem paddingOf_half (tgt : Nat) (padDist ppm : Word) : 2 * paddingOf tgt padDist ppm ≤ tgt := by
  unfold paddingOf; split <;> omega

/-- Every matching band's minimum is a lower bound of `bandMin`, and so is what was found before it. -/
theorem bandMin_cases (s thr mn : Word) (m : Nat) :
    (thr.toNat ≤ s.toNat ∧ bandMin s thr mn m = max m mn.toNat) ∨ (s.toNat < thr.toNat ∧ bandMin s thr mn m = m) := by
  unfold bandMin; split
  · exact .inl ⟨by omega, rfl⟩
  · exact .inr ⟨by omega, rfl⟩

/-- `bandMin` is monotone in the speed and in what was found before. -/
theorem bandMin_mono (s s' thr mn : Word) (m m' : Nat) (hs : s.toNat ≤ s'.toNat) (hm : m ≤ m') :
    bandMin s thr mn m ≤ bandMin s' thr mn m' := by
  unfold bandMin; split <;> split <;> omega

/-- The four ways a slew step can end: snapped onto the target, or one whole step toward it (R163, R165). -/
theorem slewStep_cases (c t r d : Nat) :
    (c ≤ t ∧ t - c ≤ r * d ∧ slewStep c t r d = t) ∨ (c ≤ t ∧ r * d < t - c ∧ slewStep c t r d = c + r * d) ∨
    (t < c ∧ c - t ≤ r * d ∧ slewStep c t r d = t) ∨ (t < c ∧ r * d < c - t ∧ slewStep c t r d = c - r * d) := by
  unfold slewStep; split <;> split <;> omega

/-- A slew step never leaves the range between the current speed and the target (R168). -/
theorem slewStep_le_max (c t r d : Nat) : slewStep c t r d ≤ max c t := by
  rcases slewStep_cases c t r d with h | h | h | h <;> omega

/-- Two slew steps at one rate are the one step of the summed time (R168 property 3). -/
theorem slewStep_add (c t r d e : Nat) : slewStep (slewStep c t r d) t r e = slewStep c t r (d + e) := by
  have hm : r * (d + e) = r * d + r * e := Nat.mul_add r d e
  unfold slewStep
  rw [hm]
  generalize r * d = x
  generalize r * e = y
  split_ifs <;> omega

/-- The elapsed time between ordered timestamps is their difference (R13). -/
theorem dt64_of_le (a b : Stamp) (h : b.toNat ≤ a.toNat) : dt64 a b = a.toNat - b.toNat := by
  unfold dt64; rw [BitVec.toNat_sub]; omega

@[simp] theorem dt64_self (a : Stamp) : dt64 a a = 0 := by simp [dt64]

/-- The duty value of a speed in range is the exact quotient, at most the period (R16). -/
theorem dutyOf_value (cur : Word) (p : Half) (h : cur.toNat ≤ Config.fullScale) :
    (dutyOf cur p).toNat = cur.toNat * p.toNat / Config.fullScale ∧ (dutyOf cur p).toNat ≤ p.toNat := by
  have hq : cur.toNat * p.toNat / Config.fullScale ≤ p.toNat := by
    rw [Nat.div_le_iff_le_mul_add_pred (by decide)]
    have := Nat.mul_le_mul_right p.toNat h
    omega
  unfold dutyOf
  rw [BitVec.toNat_ofNat, Nat.mod_eq_of_lt (by omega)]
  exact ⟨rfl, hq⟩

@[simp] theorem dutyOf_zero (p : Half) : dutyOf 0#32 p = 0#16 := by simp [dutyOf]

/-- A saturating count never falls and grows by at most one (R141). -/
theorem satInc_value (n : Word) : (satInc n).toNat = min (n.toNat + 1) Config.counterMax := by
  have hc : Config.counterMax = 4294967295 := rfl
  unfold satInc
  split
  · rw [BitVec.toNat_ofNat]; omega
  · omega

end Sys2Proof.Machine
end

