-- ==== Sys2Proof/Laws/Slew.lean ====
section
/-! SUPPORT. What one update of the slew-rate limiter does (spec/42_slew_limiter.md R163 to R168). -/

namespace Sys2Proof.Machine

@[simp] theorem slewAdvance_slTarget (now : Stamp) (l : Slew) : (slewAdvance now l).slTarget = l.slTarget := by
  unfold slewAdvance; split <;> rfl

@[simp] theorem slewAdvance_slRate (now : Stamp) (l : Slew) : (slewAdvance now l).slRate = l.slRate := by
  unfold slewAdvance; split <;> rfl

@[simp] theorem slewAdvance_slLast (now : Stamp) (l : Slew) : (slewAdvance now l).slLast = now := by
  unfold slewAdvance; split <;> rfl

@[simp] theorem slewAdvance_slInit (now : Stamp) (l : Slew) : (slewAdvance now l).slInit = true := by
  unfold slewAdvance; split
  · assumption
  · rfl

/-- A later update, as one record update (R163). -/
theorem slewAdvance_of_init (now : Stamp) (l : Slew) (h : l.slInit = true) :
    slewAdvance now l = { l with
      slCurrent := BitVec.ofNat 32 (slewStep l.slCurrent.toNat l.slTarget.toNat l.slRate.toNat (dt64 now l.slLast))
      slLast := now } := by
  simp [slewAdvance, h]

/-- The first update, as one record update (R164). -/
theorem slewAdvance_of_not_init (now : Stamp) (l : Slew) (h : l.slInit = false) :
    slewAdvance now l = { l with slLast := now, slInit := true } := by
  simp [slewAdvance, h]

/-- The speed after an update, by whether it is the first (R164) or a later one (R163). -/
theorem slewAdvance_slCurrent (now : Stamp) (l : Slew) :
    (slewAdvance now l).slCurrent = if l.slInit then
      BitVec.ofNat 32 (slewStep l.slCurrent.toNat l.slTarget.toNat l.slRate.toNat (dt64 now l.slLast)) else l.slCurrent := by
  unfold slewAdvance; split <;> rfl

/-- The stored speed is the exact slew step: nothing is lost in storing it, because a step never passes the larger of two
32-bit values. -/
theorem slewAdvance_slCurrent_toNat (now : Stamp) (l : Slew) (h : l.slInit = true) :
    (slewAdvance now l).slCurrent.toNat =
      slewStep l.slCurrent.toNat l.slTarget.toNat l.slRate.toNat (dt64 now l.slLast) := by
  have hm := slewStep_le_max l.slCurrent.toNat l.slTarget.toNat l.slRate.toNat (dt64 now l.slLast)
  rw [slewAdvance_slCurrent, if_pos h, BitVec.toNat_ofNat]
  omega

/-- An update keeps the speed between what it was and the target. -/
theorem slewAdvance_slCurrent_le (now : Stamp) (l : Slew) (n : Nat) (hc : l.slCurrent.toNat ≤ n) (ht : l.slTarget.toNat ≤ n) :
    (slewAdvance now l).slCurrent.toNat ≤ n := by
  by_cases h : l.slInit
  · rw [slewAdvance_slCurrent_toNat now l h]
    have := slewStep_le_max l.slCurrent.toNat l.slTarget.toNat l.slRate.toNat (dt64 now l.slLast)
    omega
  · rw [slewAdvance_slCurrent, if_neg h]; exact hc

/-- At rest and commanded to rest, an update leaves the speed at zero. -/
theorem slewAdvance_rest (now : Stamp) (l : Slew) (hc : l.slCurrent = 0) (ht : l.slTarget = 0) :
    (slewAdvance now l).slCurrent = 0 := by
  have := slewAdvance_slCurrent_le now l 0 (by simp [hc]) (by simp [ht])
  exact BitVec.eq_of_toNat_eq (by simpa using this)

/-- Braking and going to a state of the sequencer, as one record update (R169). -/
theorem goto_brake (q : Seq) (s : State) :
    goto q (brake s) =
      { s with seq := q, slew := { s.slew with slTarget := 0, slRate := rateOf s.cfg.rateBrake } } := by
  simp [goto, brake, setTarget]

/-- The failure entry, as one record update (R266). -/
theorem raiseFailure_eq (c : Cause) (s : State) :
    raiseFailure c s =
      { s with
        seq := .mvStopFail
        flags := { s.flags with cause := c }
        slew := { s.slew with slTarget := 0, slRate := rateOf s.cfg.rateBrake } } := by
  simp [raiseFailure, goto_brake]

/-- What `settle` answers: the exit of the updated state, or the updated state (R131). -/
theorem settle_cases (now : Stamp) (exit : State → State) (s : State) :
    ((update now s).slew.slCurrent = 0 ∧ settle now exit s = exit (update now s)) ∨
    ((update now s).slew.slCurrent ≠ 0 ∧ settle now exit s = update now s) := by
  unfold settle; split
  · exact .inl ⟨by assumption, rfl⟩
  · exact .inr ⟨by assumption, rfl⟩

/-- What `reissue` answers (R201). -/
theorem reissue_cases (v : Word) (s : State) :
    (s.cfg.cmdTol.toNat < absDiff v s.slew.slTarget ∧ reissue v s = setTarget v s.cfg.rateRun s) ∨
    (absDiff v s.slew.slTarget ≤ s.cfg.cmdTol.toNat ∧ reissue v s = s) := by
  unfold reissue; split
  · exact .inl ⟨by omega, rfl⟩
  · exact .inr ⟨by omega, rfl⟩

/-- The speed `profile` asks for is the cruise speed or the padding speed (R200). -/
theorem profile_mem (p : MoveProfile) (c : Word) : profile p c = p.pCruise ∨ profile p c = p.pPadspd := by
  unfold profile; split <;> (try split) <;> simp

/-- What `timeoutCheck` answers (R206). -/
theorem timeoutCheck_cases (now : Stamp) (s : State) :
    (s.move.pTimeout.toNat < dt64 now s.moveRun.tStart ∧ timeoutCheck now s = raiseFailure .timeout s) ∨
    (dt64 now s.moveRun.tStart ≤ s.move.pTimeout.toNat ∧ timeoutCheck now s = s) := by
  unfold timeoutCheck; split
  · exact .inl ⟨by omega, rfl⟩
  · exact .inr ⟨by omega, rfl⟩

end Sys2Proof.Machine
end

