-- ==== Sys2Proof/Laws/Exec.lean ====
section
/-! SUPPORT. What a command does when it reaches `issue`, said once: in `IDLE` its own action after the prologue, elsewhere the
refusal `BUSY` (spec/40_dispatch.md R121). -/

namespace Sys2Proof.Machine

theorem accept_idle (act : State → State) (s : State) (h : s.seq = .idle) : accept act s = .next (act (prologue s)) := by
  simp [accept, h]

theorem accept_busy (act : State → State) (s : State) (h : s.seq ≠ .idle) : accept act s = .next (refuse .busy s) := by
  simp [accept, h]

/-- The action of each command on the state the prologue left (R121). -/
def actionOf (i : Instr) (s : State) : State :=
  match i with
  | .nop => complete true s
  | .move d => startMove d s.opd.mvCruise s.pins.timeUs s
  | .wind => startMove s.ctrl.windDir s.cfg.windCruise s.pins.timeUs s
  | .unwind => startMove (!s.ctrl.windDir) s.cfg.unwindCruise s.pins.timeUs s
  | .hold d => startHold d s
  | .brake => goto .brkSettle (brake s)
  | .settgt => complete true (setTarget s.opd.slArgSpeed s.opd.slArgRate s)
  | .setdir d => complete true (setDir d s)
  | .rdrst => complete true (readAndReset s)

theorem exec_eq_accept (i : Instr) (s : State) : exec i s = accept (actionOf i) s := by
  cases i <;> rfl

theorem exec_idle (i : Instr) (s : State) (h : s.seq = .idle) : exec i s = .next (actionOf i (prologue s)) := by
  rw [exec_eq_accept, accept_idle _ _ h]

theorem exec_busy (i : Instr) (s : State) (h : s.seq ≠ .idle) : exec i s = .next (refuse .busy s) := by
  rw [exec_eq_accept, accept_busy _ _ h]

/-- What `startMove` answers: the trivial move (R196) or the beginning of a run (R195). -/
theorem startMove_cases (d : Bool) (v : Word) (now : Stamp) (s : State) :
    (s.opd.mvDist.toInt ≤ 0 ∧ startMove d v now s = complete true s) ∨
    (0 < s.opd.mvDist.toInt ∧ startMove d v now s = beginMove d v now s) := by
  unfold startMove; split
  · exact .inl ⟨by assumption, rfl⟩
  · exact .inr ⟨by omega, rfl⟩

/-- The speed `start_move` hands to the limiter is already in range, so it is stored as it is (R195). -/
theorem beginMove_eq (d : Bool) (v : Word) (now : Stamp) (s : State) :
    beginMove d v now s =
      { s with
        seq := .mvRun
        dir := d
        ctrl := { s.ctrl with fgEn := true }
        pulse := { s.pulse with pcnt := 0 }
        slew := { s.slew with
          slTarget := if 0 < (moveProfileOf d v s).pPadn.toNat then speedOf s.opd.mvPadSpeed else speedOf v
          slRate := rateOf s.cfg.rateRun }
        move := moveProfileOf d v s
        moveRun := { tStart := now, wStart := now, wCount := 0 } } := by
  have h : speedOf (if 0 < (moveProfileOf d v s).pPadn.toNat then (moveProfileOf d v s).pPadspd
      else (moveProfileOf d v s).pCruise) =
      if 0 < (moveProfileOf d v s).pPadn.toNat then speedOf s.opd.mvPadSpeed else speedOf v := by
    split <;> exact speedOf_of_le _ (speedOf_le _)
  simp only [beginMove, goto, setTarget, setDir, resetCounter, h]

end Sys2Proof.Machine
end

