-- ==== Sys2Proof/Laws/Registers.lean ====
section
/-! SUPPORT. The register space (spec/20_memory.md R62 to R67) and the Host agent, said once. -/

namespace Sys2Proof.Machine

/-- The two low address bits are ignored (R62). -/
theorem regAt_congr (a b : Offset) (h : slotOf a = slotOf b) : regAt a = regAt b := by
  simp only [regAt, h]

/-- A register the host may write other than `STATUS` and the 16-bit and 2-bit ones: the write stores all 32 bits (R64). -/
def storesWhole : BusReg → Bool
  | .cmd | .status | .ctrl | .pcnt | .pcap | .slCurrent | .slTarget | .slRate | .duty | .pwmPeriod | .pTarget | .pPadn
  | .nudgeCnt => false
  | _ => true

theorem readReg_writeReg_same (r : BusReg) (v : Word) (s : State) (h : storesWhole r = true) :
    readReg r (writeReg r v s) = v := by
  cases r <;> first | rfl | simp [storesWhole] at h

/-- A write of one register leaves what every other register reads, but for `STATUS`, whose `AT_TARGET` is computed. -/
theorem readReg_writeReg_other (r q : BusReg) (v : Word) (s : State) (h : q ≠ r) (hq : q ≠ .status) :
    readReg q (writeReg r v s) = readReg q s := by
  by_cases hs : r = .status
  · subst hs
    cases q <;> first | exact absurd rfl hq | (simp only [writeReg, writeStatus]; split <;> rfl)
  · cases r <;> first | exact absurd rfl hs | (cases q <;> first | rfl | exact absurd rfl h | exact absurd rfl hq)

/-- What a plain register write leaves alone, whichever register it is: everything but `CTRL`, the configuration and operand
registers, the stall table and the two error bits (R64, R74). -/
theorem writeReg_frame (r : BusReg) (v : Word) (s : State) :
    (writeReg r v s).seq = s.seq ∧ (writeReg r v s).dir = s.dir ∧ (writeReg r v s).pulse = s.pulse ∧
    (writeReg r v s).slew = s.slew ∧ (writeReg r v s).move = s.move ∧ (writeReg r v s).moveRun = s.moveRun ∧
    (writeReg r v s).hold = s.hold ∧ (writeReg r v s).holdRun = s.holdRun ∧ (writeReg r v s).hidden = s.hidden ∧
    (writeReg r v s).pins = s.pins ∧ (writeReg r v s).script = s.script ∧
    (writeReg r v s).flags.done = s.flags.done ∧ (writeReg r v s).flags.result = s.flags.result ∧
    (writeReg r v s).flags.cause = s.flags.cause := by
  by_cases hs : r = .status
  · subst hs
    simp only [writeReg, writeStatus]
    split <;> simp
  · cases r <;> first | exact absurd rfl hs | simp [writeReg]

/-- The two error bits after a plain register write: cleared together, or both as they were (R26). -/
theorem writeReg_error (r : BusReg) (v : Word) (s : State) :
    ((writeReg r v s).flags.cmderr = false ∧ (writeReg r v s).flags.errc = .none) ∨ (writeReg r v s).flags = s.flags := by
  by_cases hs : r = .status
  · subst hs
    simp only [writeReg, writeStatus]
    split
    · exact .inl ⟨rfl, rfl⟩
    · exact .inr rfl
  · cases r <;> first | exact absurd rfl hs | exact .inr rfl

/-- Every way a write to the register space can end (R64): the acceptance of a command, a refusal, a plain register write, or
nothing. -/
theorem memWrite_cases (off : Offset) (v : Word) (s : State) :
    (∃ i, decode v = .command i ∧ s.seq = .idle ∧ memWrite off v s = .next (actionOf i (prologue s))) ∨
    (∃ c, c ≠ .none ∧ memWrite off v s = .next (refuse c s)) ∨
    (∃ r, r ≠ .cmd ∧ memWrite off v s = .next (writeReg r v s)) ∨
    memWrite off v s = .next s := by
  unfold memWrite
  split
  · unfold issue
    split
    · rename_i c hc
      refine .inr (.inl ⟨c, ?_, rfl⟩)
      rintro rfl
      unfold decode at hc
      split at hc
      · exact absurd hc (by simp)
      · split at hc
        · exact absurd hc (by simp)
        · split at hc <;> exact absurd hc (by simp)
    · rename_i i hi
      by_cases h : s.seq = .idle
      · exact .inl ⟨i, hi, h, exec_idle i s h⟩
      · exact .inr (.inl ⟨.busy, by simp, exec_busy i s h⟩)
  · rename_i r h _
    exact .inr (.inr (.inl ⟨r, by rintro rfl; exact h rfl, rfl⟩))
  · exact .inr (.inr (.inr rfl))

/-- Every way a host access can end: the data of a read lands on `bus_rdata`, a write does what `memWrite` does, and outside the
port contract the free data lands there and the write happens or not. -/
theorem busAccess_cases (r : BusReq) (s : State) :
    (∃ d n, busAccess r s = .next { s with busRdata := d, freeCount := n }) ∨
    (∃ off v d n, busAccess r s = memWrite off v { s with busRdata := d, freeCount := n }) := by
  cases r with
  | read off => exact .inl ⟨memRead off s, s.freeCount, rfl⟩
  | write off v => exact .inr ⟨off, v, s.busRdata, s.freeCount, rfl⟩
  | both off v =>
    by_cases h : Config.freeWriteTaken s.freeCount
    · exact .inr ⟨off, v, Config.freeRdata s.freeCount, s.freeCount + 1, by simp [busAccess, busBoth, h]⟩
    · exact .inl ⟨Config.freeRdata s.freeCount, s.freeCount + 1, by simp [busAccess, busBoth, h]⟩

end Sys2Proof.Machine
end

