-- ==== Sys2Proof/Laws/Control.lean ====
section
/-! SUPPORT. What one control iteration does in each state of the sequencer, said once per state (spec/40_dispatch.md R128). -/

namespace Sys2Proof.Machine

/-- The speed commanded after the profile part of a move iteration: the profile's speed if it differs from the commanded one by
more than the tolerance, else the one in force (R201). -/
def profileTarget (s : State) : Word :=
  if absDiff (profile s.move s.pulse.pcnt) s.slew.slTarget > s.cfg.cmdTol.toNat then speedOf (profile s.move s.pulse.pcnt)
  else s.slew.slTarget

/-- The state a move iteration is in when it comes to the stall window: updated, and the speed command re-issued or not. -/
def profiled (now : Stamp) (s : State) : State := reissue (profile s.move s.pulse.pcnt) (update now s)

/-- The profiled state differs from the updated one only in the commanded speed and the ramp rate. -/
theorem profiled_eq (now : Stamp) (s : State) :
    ∃ r, (r = s.slew.slRate ∨ r = rateOf s.cfg.rateRun) ∧ profiled now s =
      { update now s with slew := { (update now s).slew with slTarget := profileTarget s, slRate := r } } := by
  unfold profileTarget profiled
  rcases reissue_cases (profile s.move s.pulse.pcnt) (update now s) with ⟨h, e⟩ | ⟨h, e⟩ <;>
    simp only [update_slew, update_cfg, slewAdvance_slTarget] at h
  · exact ⟨_, .inr rfl, by rw [e, if_pos h]; rfl⟩
  · refine ⟨_, .inl rfl, ?_⟩
    rw [e, if_neg (by omega)]
    have h₁ := slewAdvance_slTarget now s.slew
    have h₂ := slewAdvance_slRate now s.slew
    simp only [update, ← h₁, ← h₂]

/-- What `stallCheck` answers (R202, R205, R206). -/
theorem stallCheck_cases (now : Stamp) (c : Word) (s : State) :
    (s.move.pStallwin.toNat ≤ dt64 now s.moveRun.wStart ∧
      (c.toNat : Int) - s.moveRun.wCount.toNat < minPulses s.stall s.slew.slTarget ∧
      stallCheck now c s = raiseFailure .stall s) ∨
    (s.move.pStallwin.toNat ≤ dt64 now s.moveRun.wStart ∧
      minPulses s.stall s.slew.slTarget ≤ (c.toNat : Int) - s.moveRun.wCount.toNat ∧
      stallCheck now c s = timeoutCheck now { s with moveRun := { s.moveRun with wStart := now, wCount := c } }) ∨
    (dt64 now s.moveRun.wStart < s.move.pStallwin.toNat ∧ stallCheck now c s = timeoutCheck now s) := by
  unfold stallCheck
  split
  · split
    · exact .inl ⟨by omega, by omega, rfl⟩
    · exact .inr (.inl ⟨by omega, by omega, rfl⟩)
  · exact .inr (.inr ⟨by omega, rfl⟩)

/-- What `moveIter` answers: the target is reached, or the stall window and the timeout decide on the profiled state (R197). -/
theorem moveIter_cases (now : Stamp) (s : State) :
    (s.move.pTarget.toNat ≤ s.pulse.pcnt.toNat ∧ moveIter now s = goto .mvStopOk (brake s)) ∨
    (s.pulse.pcnt.toNat < s.move.pTarget.toNat ∧ moveIter now s = stallCheck now s.pulse.pcnt (profiled now s)) := by
  unfold moveIter
  dsimp only
  split
  · exact .inl ⟨by omega, rfl⟩
  · exact .inr ⟨by omega, rfl⟩

/-- What `watchIter` answers (R233). -/
theorem watchIter_cases (now : Stamp) (s : State) :
    (s.hold.hDur.toNat ≤ dt64 now s.holdRun.hStart ∧ watchIter now s = complete true s) ∨
    (dt64 now s.holdRun.hStart < s.hold.hDur.toNat ∧ s.hold.hDb.toNat < s.pulse.pcnt.toNat ∧
      s.hold.hGap.toNat ≤ dt64 now s.holdRun.nLast ∧ watchIter now s = startNudge (update now s)) ∨
    (dt64 now s.holdRun.hStart < s.hold.hDur.toNat ∧
      (s.pulse.pcnt.toNat ≤ s.hold.hDb.toNat ∨ dt64 now s.holdRun.nLast < s.hold.hGap.toNat) ∧
      watchIter now s = update now s) := by
  unfold watchIter
  split
  · exact .inl ⟨by omega, rfl⟩
  · dsimp only
    split
    · rename_i h; simp at h; exact .inr (.inl ⟨by omega, by omega, by omega, rfl⟩)
    · rename_i h; simp at h; exact .inr (.inr ⟨by omega, by omega, rfl⟩)

/-- What `nudgeIter` answers (R236). -/
theorem nudgeIter_cases (now : Stamp) (s : State) :
    (s.hold.hQuota.toNat ≤ s.pulse.pcnt.toNat ∧ nudgeIter now s = goto .hdNudgeStop (brake s)) ∨
    (s.pulse.pcnt.toNat < s.hold.hQuota.toNat ∧ nudgeIter now s = update now s) := by
  unfold nudgeIter
  split
  · exact .inl ⟨by omega, rfl⟩
  · exact .inr ⟨by omega, rfl⟩

end Sys2Proof.Machine
end

