-- ==== Sys2Proof/Laws/PerInstr.lean ====
section
/-! SUPPORT. Facts about every command as syntax, one lemma per constructor of `Instr`: its encoding is legal by the three
checks of spec/30_encoding.md R97, and decoding it gives the command back. -/

namespace Sys2Proof.Laws

/-- The word a command encodes to passes the checks of R97. -/
def EncodeLegal.Statement (i : Instr) : Prop := legalWord (encode i) = true

theorem EncodeLegal.nop : EncodeLegal.Statement .nop := rfl
theorem EncodeLegal.move (d : Bool) : EncodeLegal.Statement (.move d) := by cases d <;> rfl
theorem EncodeLegal.wind : EncodeLegal.Statement .wind := rfl
theorem EncodeLegal.unwind : EncodeLegal.Statement .unwind := rfl
theorem EncodeLegal.hold (d : Bool) : EncodeLegal.Statement (.hold d) := by cases d <;> rfl
theorem EncodeLegal.brake : EncodeLegal.Statement .brake := rfl
theorem EncodeLegal.settgt : EncodeLegal.Statement .settgt := rfl
theorem EncodeLegal.setdir (d : Bool) : EncodeLegal.Statement (.setdir d) := by cases d <;> rfl
theorem EncodeLegal.rdrst : EncodeLegal.Statement .rdrst := rfl

/-- Decoding the word a command encodes to gives the command back (R94, R96). -/
def DecodeEncode.Statement (i : Instr) : Prop := decode (encode i) = .command i

theorem DecodeEncode.nop : DecodeEncode.Statement .nop := rfl
theorem DecodeEncode.move (d : Bool) : DecodeEncode.Statement (.move d) := by cases d <;> rfl
theorem DecodeEncode.wind : DecodeEncode.Statement .wind := rfl
theorem DecodeEncode.unwind : DecodeEncode.Statement .unwind := rfl
theorem DecodeEncode.hold (d : Bool) : DecodeEncode.Statement (.hold d) := by cases d <;> rfl
theorem DecodeEncode.brake : DecodeEncode.Statement .brake := rfl
theorem DecodeEncode.settgt : DecodeEncode.Statement .settgt := rfl
theorem DecodeEncode.setdir (d : Bool) : DecodeEncode.Statement (.setdir d) := by cases d <;> rfl
theorem DecodeEncode.rdrst : DecodeEncode.Statement .rdrst := rfl

end Sys2Proof.Laws
end

