-- ==== Sys2Proof/Laws/Step.lean ====
section
/-! SUPPORT. What one input does, said once (spec/00_scope.md R6, spec/20_memory.md R70, spec/70_reset_and_hazards.md R290). -/

namespace Sys2Proof.Machine

/-- Every host access answers a next state. -/
theorem busAccess_next (r : BusReq) (s : State) : ∃ t, busAccess r s = .next t := by
  rcases busAccess_cases r s with ⟨d, n, h⟩ | ⟨off, v, d, n, h⟩
  · exact ⟨_, h⟩
  · rcases memWrite_cases off v { s with busRdata := d, freeCount := n } with ⟨_, _, _, e⟩ | ⟨_, _, e⟩ | ⟨_, _, e⟩ | e
      <;> exact ⟨_, h.trans e⟩

/-- The agents' steps of a clock cycle with no host access. -/
theorem cycleAgents_none (s : State) :
    cycleAgents none s = .next (iterate (if edgeDetected s.hidden then increment s else s)) := rfl

/-- The agents' steps of a clock cycle with a host access: the iteration runs on what the access left. -/
theorem cycleAgents_some (q : BusReq) (s u : State)
    (h : busAccess q (if edgeDetected s.hidden then increment s else s) = .next u) :
    cycleAgents (some q) s = .next (iterate u) := by
  simp [cycleAgents, h]

/-- What a clock edge answers, once the agents' steps have answered. -/
theorem clkEdge_next (r : Option BusReq) (s t : State) (h : cycleAgents r s = .next t) :
    clkEdge r s = .next { t with hidden := hiddenNext s.pins.fgIn s.cfg.pwmPeriod s.hidden } := by
  simp [clkEdge, h]

/-- Every input does one of these: the state held in reset, a pin change, one agent's step, or a clock edge. -/
theorem perform_cases (e : Input) (s : State) :
    (s.pins.rstN = false ∧ perform e s = .next (performInReset e s)) ∨
    (s.pins.rstN = true ∧ perform e s = performRunning e s) := by
  unfold perform
  cases s.pins.rstN
  · exact .inl ⟨rfl, rfl⟩
  · exact .inr ⟨rfl, rfl⟩

theorem dropInput_of_cons (s : State) (e : Input) (es : List Input) (h : s.script = e :: es) :
    dropInput s = { s with script := es } := by
  simp [dropInput, h]

theorem nextInput_of_cons (s : State) (e : Input) (es : List Input) (h : s.script = e :: es) :
    nextInput s = e := by
  simp [nextInput, h]

/-- With inputs still to come a step performs the first of them. -/
theorem step_of_cons (s : State) (e : Input) (es : List Input) (h : s.script = e :: es) :
    step s = perform e { s with script := es } := by
  rw [step, nextInput_of_cons s e es h, dropInput_of_cons s e es h]

/-- With none to come a step is a clock edge with no bus access. -/
theorem step_of_nil (s : State) (h : s.script = []) : step s = perform (.clk none) s := by
  have hd : dropInput s = s := by cases s; simp_all [dropInput]
  simp [step, nextInput, h, hd]

/-- One step of a run that goes on. -/
theorem run_succ (M : Host.Core) (k : Nat) (s t : M.State) (h : M.step s = .next t) : M.run (k + 1) s = M.run k t := by
  simp only [Host.Core.run, h]

end Sys2Proof.Machine
end

