-- ==== Sys2Proof/Tests/Slice0.lean ====
section
/-! SUPPORT. Tests of the model and the witnesses of the obligations. Expected values come from the test vectors of
spec/95_test_vectors.md (named V<n>, T<n> or section 3 in the docstrings), never from running the model. -/

open Sys2Proof Sys2Proof.Machine Sys2Proof.Statements

namespace Sys2Proof.Tests

/-- The state a step answers, the state after reset standing for a stop. -/
def after (r : Result) : State :=
  match r with
  | .next t => t
  | .fault _ => State.reset
  | .refused _ => State.reset

/-- The word a host reads at `STATUS`. -/
def status (s : State) : Word := memRead 0x04#8 s

/-- `s` at another time. -/
def at' (t : Stamp) (s : State) : State := { s with pins := { s.pins with timeUs := t } }

/-- The standard set-up of spec/95_test_vectors.md section 2.5, with the operands of `MOVEP cw, 600000, 60000000, 10000000, 50000,
20000000, 500000` and of the hold of T5, at time 1000. -/
def std : State :=
  { State.reset with
    slew := { State.reset.slew with slInit := true }
    cfg := { State.reset.cfg with pwmPeriod := 1000, ppm := 35046071, rateRun := 100, rateBrake := 200 }
    opd := { State.reset.opd with
      mvDist := 600000, mvCruise := 60000000, mvTimeout := 10000000, mvPadDist := 50000, mvPadSpeed := 20000000
      mvStallWin := 500000, hdDuration := 5000000, hdNudgeSpeed := 25000000, hdDeadband := 1, hdQuota := 4
      hdMinGap := 1000000 }
    pins := { State.reset.pins with timeUs := 1000 } }

/-- `std` with other operand registers for distance, padding and padding speed. -/
def stdMove (dist pad : Word) : State := { std with opd := { std.opd with mvDist := dist, mvPadDist := pad } }

/-- The move of T1 while it runs, at time `t` with `c` pulses counted. -/
def running (t : Stamp) (c : Word) : State :=
  { at' t std with
    seq := .mvRun
    dir := true
    ctrl := { std.ctrl with fgEn := true }
    pulse := { std.pulse with pcnt := c }
    slew := { std.slew with slTarget := 20000000, slRate := 100 }
    move := { pDir := true, pTarget := 321, pCruise := 60000000, pPadn := 27, pPadspd := 20000000, pTimeout := 10000000,
              pStallwin := 500000 }
    moveRun := { tStart := 1000, wStart := 1000, wCount := 0 } }

/-- The hold of T6 in its watch loop, at time `t` with `c` pulses counted. -/
def watching (t : Stamp) (c : Word) : State :=
  { at' t std with
    seq := .hdWatch
    ctrl := { std.ctrl with fgEn := true }
    pulse := { std.pulse with pcnt := c }
    slew := { std.slew with slRate := 200, slLast := 11000 }
    hold := { hDur := 5000000, hDir := true, hNspd := 25000000, hDb := 1, hQuota := 4, hGap := 1000000 }
    holdRun := { hStart := 11000, nLast := 11000, nudgeCnt := 0 } }

/-- The hold of T6 in its nudge, at time `t` with `c` pulses counted. -/
def nudging (t : Stamp) (c : Word) : State :=
  { watching t c with
    seq := .hdNudge
    dir := true
    slew := { slCurrent := 3000000, slTarget := 25000000, slRate := 100, slLast := 1540000, slInit := true, duty := 30 } }

/-- A settle loop at time `t`, at the speed `cur` when `SL_LAST` was 100 000, braking at 200 percent per second. -/
def settling (q : Seq) (cause : Cause) (t : Stamp) (cur : Word) : State :=
  { at' t std with
    seq := q
    flags := { std.flags with cause := cause }
    slew := { slCurrent := cur, slTarget := 0, slRate := 200, slLast := 100000, slInit := true, duty := 0 } }

/-- `s` with a rise of `fg_in` in its detector, so that the next clock cycle delivers an edge event, and the source enabled. -/
def rising (s : State) : State :=
  { s with ctrl := { s.ctrl with fgEn := true }, hidden := { s.hidden with fgS2 := true, fgPrev := false } }

/-! ### Well-formedness: each check of R97 refuses a word that breaks it, and that word only for that reason -/

theorem test_reserved_high_bit_is_ill_formed :
    highBitsClear 0x00000200#32 = false ∧ legalWord 0x00000200#32 = false ∧ legalWord 0x80000001#32 = false := by decide

theorem test_undefined_opcode_is_ill_formed :
    highBitsClear 0x00000009#32 = true ∧ opcodeDefined 0x00000009#32 = false ∧ legalWord 0x00000009#32 = false := by decide

theorem test_direction_on_format_n_is_ill_formed :
    opcodeDefined 0x00000102#32 = true ∧ directionAllowed 0x00000102#32 = false ∧ legalWord 0x00000102#32 = false := by
  decide

theorem test_every_command_is_well_formed (i : Instr) : i.wellFormed = true := by cases i <;> rfl

/-! ### Decoding: every row of R94, its word written out bit by bit (bits 31:9, bit 8, bits 7:0), and V1 -/

theorem test_nop_word : decode (0#23 ++ 0b0#1 ++ 0b00000000#8) = .command .nop := by decide
theorem test_move_word : decode (0#23 ++ 0b0#1 ++ 0b00000001#8) = .command (.move false) ∧
    decode (0#23 ++ 0b1#1 ++ 0b00000001#8) = .command (.move true) := by decide
theorem test_wind_word : decode (0#23 ++ 0b0#1 ++ 0b00000010#8) = .command .wind := by decide
theorem test_unwind_word : decode (0#23 ++ 0b0#1 ++ 0b00000011#8) = .command .unwind := by decide
theorem test_hold_word : decode (0#23 ++ 0b0#1 ++ 0b00000100#8) = .command (.hold false) ∧
    decode (0#23 ++ 0b1#1 ++ 0b00000100#8) = .command (.hold true) := by decide
theorem test_brake_word : decode (0#23 ++ 0b0#1 ++ 0b00000101#8) = .command .brake := by decide
theorem test_settgt_word : decode (0#23 ++ 0b0#1 ++ 0b00000110#8) = .command .settgt := by decide
theorem test_setdir_word : decode (0#23 ++ 0b0#1 ++ 0b00000111#8) = .command (.setdir false) ∧
    decode (0#23 ++ 0b1#1 ++ 0b00000111#8) = .command (.setdir true) := by decide
theorem test_rdrst_word : decode (0#23 ++ 0b0#1 ++ 0b00001000#8) = .command .rdrst := by decide

/-- V1, the refused words. -/
theorem test_refused_words :
    [0x00000009#32, 0x000000FF#32, 0x00000109#32, 0x000001FF#32].all (fun w => decode w = .refused .undef) = true ∧
    [0x00000100#32, 0x00000102#32, 0x00000108#32, 0x00000200#32, 0x80000001#32, 0xFFFFFFFF#32].all
      (fun w => decode w = .refused .rsvd) = true := by decide

/-- The numbering of spec/opcode_table.json: bit 0 is the least significant bit of the one word. -/
theorem test_table_word : decodeTableWord 32 0x104 = some (.hold true) ∧ decodeTableWord 8 5 = some .brake ∧
    decodeTableWord 32 0x200 = none ∧ decodeTableWord 32 9 = none := by decide

/-- A placed word is run by the very next step from reset. -/
theorem test_placed_word_runs : (after (step (State.reset.withFetchWord 32 0x107))).dir = true := by decide

/-! ### The commands, one step each -/

/-- V3. -/
theorem test_nop : status (after (exec .nop State.reset)) = 0x00000106#32 := by decide
/-- V10: NOP while a brake settles. -/
theorem test_nop_busy : status (after (exec .nop { State.reset with seq := .brkSettle })) = 0x00008161#32 := by decide
/-- V42, first row, with `MOVE ccw`. -/
theorem test_move : (after (exec (.move false) std)).move.pTarget = 321 ∧ (after (exec (.move false) std)).move.pPadn = 27 ∧
    (after (exec (.move false) std)).slew.slTarget = 20000000 ∧ status (after (exec (.move false) std)) = 0x00001201#32 := by
  decide
/-- V42, second row and sixth: the shrink, and a target of 1. -/
theorem test_move_padding : (after (exec (.move false) (stdMove 100000 50000))).move.pPadn = 26 ∧
    (after (exec (.move false) (stdMove 2000 50000))).move.pPadn = 0 ∧
    (after (exec (.move false) (stdMove 2000 50000))).slew.slTarget = 60000000 := by decide
/-- V48, first row. -/
theorem test_wind : (after (exec .wind { std with
      ctrl := { fgEn := true, windDir := true }, cfg := { std.cfg with windCruise := 60000000, unwindCruise := 35000000 }
      opd := { std.opd with mvCruise := 11000000, mvPadDist := 0 } })).move.pCruise = 60000000 := by decide
/-- V48, first row: the direction. -/
theorem test_wind_direction : (after (exec .wind { std with ctrl := { fgEn := true, windDir := true } })).dir = true := by
  decide
/-- V48, second row. -/
theorem test_unwind : (after (exec .unwind { std with
      ctrl := { fgEn := true, windDir := true }, cfg := { std.cfg with windCruise := 60000000, unwindCruise := 35000000 }
      opd := { std.opd with mvCruise := 11000000, mvPadDist := 0 } })).move.pCruise = 35000000 := by decide
/-- V48, third row: the direction is the complement of `WIND_DIR`. -/
theorem test_unwind_direction : (after (exec .unwind { std with ctrl := { fgEn := true, windDir := false } })).dir = true := by
  decide
/-- V18. -/
theorem test_hold : status (after (exec (.hold false) State.reset)) = 0x00004101#32 := by decide
/-- T5, the acceptance: the brake rate is commanded, the direction is not touched. -/
theorem test_hold_brakes : (after (exec (.hold true) std)).slew.slRate = 200 ∧ (after (exec (.hold true) std)).dir = false := by
  decide
/-- V9. -/
theorem test_brake : status (after (exec .brake State.reset)) = 0x00008101#32 := by decide
/-- V34 and V35: the clamp and the replaced rate. -/
theorem test_settgt :
    (after (exec .settgt { std with opd := { std.opd with slArgSpeed := 0x05F5E101, slArgRate := 5 } })).slew.slTarget =
      100000000 ∧
    (after (exec .settgt { std with opd := { std.opd with slArgSpeed := 0xFFFFFFFF, slArgRate := 0x80000000 } })).slew.slRate =
      1 := by decide
/-- V15. -/
theorem test_setdir : status (after (exec (.setdir true) State.reset)) = 0x00000506#32 := by decide
/-- V22, the first RDRST, and V23: it resumes the edge source. -/
theorem test_rdrst : (after (exec .rdrst { State.reset with pulse := { pcnt := 37, pcap := 0 } })).pulse = ⟨0, 37⟩ ∧
    memRead 0x08#8 (after (exec .rdrst State.reset)) = 0x00000001#32 := by decide

/-! ### The counter, the limiter and the iterations -/

/-- V24 and V21. -/
theorem test_edge_saturates :
    (increment { std with ctrl := { std.ctrl with fgEn := true }, pulse := { std.pulse with pcnt := 0xFFFFFFFE } }).pulse.pcnt =
      0xFFFFFFFF ∧
    (increment { std with ctrl := { std.ctrl with fgEn := true }, pulse := { std.pulse with pcnt := 0xFFFFFFFF } }).pulse.pcnt =
      0xFFFFFFFF ∧ (increment State.reset).pulse.pcnt = 0 := by decide
/-- V37: a step up, the snap at a gap equal to the step, a step down. -/
theorem test_slew_step : slewStep 0 30000000 100 10000 = 1000000 ∧ slewStep 29999900 30000000 100 1 = 30000000 ∧
    slewStep 30000000 10000000 50 1 = 29999950 := by decide
/-- V4: the first update records the time only. -/
theorem test_first_update : status (iterateAt 0 State.reset) = 0x00000300#32 := by decide
/-- V41. -/
theorem test_duty : dutyOf 999999 100 = 0 ∧ dutyOf 1000000 100 = 1 ∧ dutyOf 99999999 65535 = 65534 ∧ dutyOf 33333333 3 = 0 := by
  decide
/-- Section 3: the scenario, both sides of a half, the largest value, a negative distance. -/
theorem test_pulses : pulsesOf 600000 35046071 = 321 ∧ pulsesOf 934 35046071 = 0 ∧ pulsesOf 935 35046071 = 1 ∧
    pulsesOf 499999 65536 = 0 ∧ pulsesOf 500000 65536 = 1 ∧ pulsesOf 0x7FFFFFFF 0xFFFFFFFF = 140737488 ∧
    pulsesOf 0x80000000 35046071 = 0 := by decide
/-- V44: the largest matching minimum, not the last. -/
theorem test_min_pulses :
    minPulses { State.reset.stall with thr1 := 40000000, min1 := 3, thr2 := 70000000, min2 := 2 } 39999999 = 1 ∧
    minPulses { State.reset.stall with thr1 := 40000000, min1 := 3, thr2 := 70000000, min2 := 2 } 70000000 = 3 ∧
    minPulses State.reset.stall 14999999 = 0 := by decide
/-- T1, k = 27: the iteration of the first cruise count commands cruise. -/
theorem test_move_cruise : (iterateAt 271000 (running 271000 27)).slew.slTarget = 60000000 ∧
    (iterateAt 261000 (running 261000 26)).slew.slTarget = 20000000 := by decide
/-- V46: stall wins over timeout, the target over both. -/
theorem test_move_order :
    (iterateAt 20000000 (running 20000000 0)).flags.cause = .stall ∧ (iterateAt 20000000 (running 20000000 321)).seq = .mvStopOk ∧
    (iterateAt 20000000 (running 20000000 321)).flags.cause = .none := by decide
/-- T2's kind of end: the window has its pulses, the timeout is exceeded by one microsecond and not before. -/
theorem test_move_timeout : (iterateAt 10001001 (running 10001001 320)).flags.cause = .timeout ∧
    (iterateAt 10001000 (running 10001000 320)).seq = .mvRun := by decide
/-- T1, k = 338: the settle ends with success. -/
theorem test_settle_ends : (iterateAt 275000 (settling .mvStopOk .none 275000 35000000)).flags.done = true ∧
    (iterateAt 274999 (settling .mvStopOk .none 274999 35000000)).flags.done = false := by decide
/-- V14: the settle loop of a BRAKE issued right after reset. -/
theorem test_brake_settles : status (iterateAt 5 { State.reset with seq := .brkSettle }) = 0x00000306#32 := by decide
/-- V19: the first settle of a hold issued right after reset. -/
theorem test_hold_settles : status (iterateAt 3 { State.reset with seq := .hdSettle }) = 0x00005301#32 ∧
    (iterateAt 3 { State.reset with seq := .hdSettle }).ctrl.fgEn = true ∧
    (iterateAt 3 { State.reset with seq := .hdSettle }).holdRun.hStart = 3 := by decide
/-- T6: the settle after the nudge discards the coasting pulses and records the nudge timestamp. -/
theorem test_nudge_stop_settles :
    (iterateAt 1560000 { nudging 1560000 5 with seq := .hdNudgeStop, slew := { (nudging 0 0).slew with slTarget := 0, slRate := 200 }
      }).holdRun.nLast = 1560000 ∧
    (iterateAt 1560000 { nudging 1560000 5 with seq := .hdNudgeStop, slew := { (nudging 0 0).slew with slTarget := 0, slRate := 200 }
      }).pulse.pcnt = 0 := by decide
/-- T6: the nudge starts at the gap; T5: not a microsecond before. -/
theorem test_nudge_starts : (iterateAt 1011000 (watching 1011000 2)).seq = .hdNudge ∧
    (iterateAt 1010999 (watching 1010999 2)).seq = .hdWatch ∧ (iterateAt 1011000 (watching 1011000 1)).seq = .hdWatch := by decide
/-- T6: three pulses of four do not end the nudge, four do. -/
theorem test_nudge_ends : (iterateAt 1550000 (nudging 1550000 3)).seq = .hdNudge ∧
    (iterateAt 1550000 (nudging 1550000 4)).seq = .hdNudgeStop := by decide
/-- T6: the hold ends at the duration, and not a microsecond before. -/
theorem test_hold_ends : (iterateAt 5011000 (watching 5011000 0)).flags.result = true ∧
    (iterateAt 5010999 (watching 5010999 0)).seq = .hdWatch := by decide

/-! ### The register space and reset -/

/-- V2. -/
theorem test_status_after_reset_words : status (after (perform (.rst false) (running 1001000 100))) = 0x00000100#32 := by decide
/-- V27, V29. -/
theorem test_reserved_bits : memRead 0x08#8 (after (memWrite 0x08#8 0xFFFFFFFC#32 std)) = 0 ∧
    memRead 0x24#8 (after (memWrite 0x24#8 0x00012345#32 std)) = 0x00002345#32 := by decide
/-- V28, V51. -/
theorem test_ignored_writes : memRead 0x0C#8 (after (memWrite 0x0C#8 55#32 std)) = 0 ∧
    memRead 0x78#8 (after (memWrite 0x78#8 0xDEADBEEF#32 std)) = 0 ∧ memRead 0xFC#8 std = 0 := by decide
/-- R61: the bytes of `PPM = 0x0216C2B7` as a byte-addressed platform maps them. -/
theorem test_bytes_are_little_endian : readByte 0x28#8 std = 0xB7 ∧ readByte 0x29#8 std = 0xC2 ∧ readByte 0x2A#8 std = 0x16 ∧
    readByte 0x2B#8 std = 0x02 := by decide

/-! ### Witnesses: concrete states and operands that meet the hypotheses of each obligation, each clause at its boundary -/

theorem witness_DecodingChecksInOrder :
    (0x200#32).toNat / 512 ≠ 0 ∧ ((0x1FF#32).toNat / 512 = 0 ∧ 8 < (0x1FF#32).toNat % 256) ∧
    ((0x009#32).toNat / 512 = 0 ∧ 8 < (0x009#32).toNat % 256) ∧
    ((0x108#32).toNat / 512 = 0 ∧ (0x108#32).toNat % 256 ≤ 8 ∧ (0x108#32).toNat / 256 % 2 = 1 ∧
      (0x108#32).toNat % 256 ∉ [1, 4, 7]) ∧
    ((0x107#32).toNat / 512 = 0 ∧ (0x107#32).toNat % 256 ≤ 8 ∧ (0x107#32).toNat % 256 ∈ [1, 4, 7]) ∧
    ((0x008#32).toNat / 512 = 0 ∧ (0x008#32).toNat % 256 ≤ 8 ∧ (0x008#32).toNat / 256 % 2 = 0) := by decide

theorem witness_StepRunsTheWrittenCommand :
    { std with script := [.bus (.write 0x03#8 5#32), .edge] }.script = .bus (.write 0x03#8 5#32) :: [.edge] ∧
    { std with script := [.bus (.write 0x03#8 5#32), .edge] }.pins.rstN = true ∧ (0x03#8).toNat / 4 = 0 ∧ decode 5#32 = .command .brake := by decide

theorem witness_LegalWordWhileRunningIsBusy :
    (running 1000 0).pins.rstN = true ∧ (running 1000 0).seq ≠ .idle ∧ (0x00#8).toNat / 4 = 0 ∧ (0x03#8).toNat / 4 = 0 ∧ decode 0#32 = .command .nop := by decide

theorem witness_IllegalWordRecordsItsCode :
    (running 1000 0).pins.rstN = true ∧ std.pins.rstN = true ∧ (0x03#8).toNat / 4 = 0 ∧ decode 9#32 = .refused .undef ∧ decode 0x200#32 = .refused .rsvd := by decide

/-- For the five statements about the immediate commands and the brake: a state that accepts and one that refuses. -/
theorem witness_NopReportsSuccessOnly : std.seq = .idle ∧ (running 1000 0).seq ≠ .idle := by decide
theorem witness_SettgtRecordsTargetAndRate : std.seq = .idle ∧ (running 1000 0).seq ≠ .idle := by decide
theorem witness_BrakeCommandsZeroAndSettles : std.seq = .idle ∧ (nudging 1000 0).seq ≠ .idle := by decide
theorem witness_SetdirSetsTheDirectionLine : std.seq = .idle ∧ (watching 1000 0).seq ≠ .idle := by decide
theorem witness_RdrstCapturesAndClears : std.seq = .idle ∧ (running 1000 0).seq ≠ .idle := by decide
theorem witness_SecondCaptureYieldsZero : std.seq = .idle := by decide

theorem witness_MoveBeginsARun : (stdMove 1 50000).seq = .idle ∧ 0 < (stdMove 1 50000).opd.mvDist.toInt ∧
    0 < std.opd.mvDist.toInt ∧ (running 1000 0).seq ≠ .idle := by decide
theorem witness_WindAndUnwindBeginRuns : (stdMove 0x7FFFFFFF 0).seq = .idle ∧ 0 < (stdMove 0x7FFFFFFF 0).opd.mvDist.toInt ∧
    (running 1000 0).seq ≠ .idle := by decide
theorem witness_NonPositiveDistanceIsTrivial :
    (stdMove 0 0).seq = .idle ∧ (stdMove 0 0).opd.mvDist.toInt ≤ 0 ∧ (stdMove 0x80000000 0).opd.mvDist.toInt ≤ 0 ∧
    0 < (stdMove 1 0).opd.mvDist.toInt ∧ 1 * 35046071 + 32768000000 < (0 + 1) * 65536000000 := by decide
theorem witness_HoldBeginsWithASettle : std.seq = .idle ∧ (watching 1000 0).seq ≠ .idle := by decide

theorem witness_EdgeCountsOnceWhenEnabled : (running 1000 0xFFFFFFFF).pins.rstN = true ∧
    (running 1000 0xFFFFFFFF).ctrl.fgEn = true ∧ std.pins.rstN = true ∧ std.ctrl.fgEn = false := by decide
theorem witness_UpdateStepsTowardTheTarget :
    (settling .brkSettle .none 100001 100000000).slew.slCurrent.toNat ≤ 100000000 ∧
    (settling .brkSettle .none 100001 100000000).slew.slTarget.toNat ≤ 100000000 ∧
    (settling .brkSettle .none 100001 100000000).slew.slInit = true ∧ (running 1000 0).slew.slCurrent.toNat ≤ 100000000 ∧
    (running 1000 0).slew.slTarget.toNat ≤ 100000000 ∧ (running 1000 0).slew.slInit = true ∧
    State.reset.slew.slInit = false ∧ State.reset.slew.slCurrent.toNat ≤ 100000000 ∧
    State.reset.slew.slTarget.toNat ≤ 100000000 := by decide
theorem witness_UpdateIsRateLimited : (nudging 1550000 0).slew.slCurrent.toNat ≤ 100000000 ∧
    (nudging 1550000 0).slew.slTarget.toNat ≤ 100000000 := by decide
theorem witness_RampIgnoresTheSchedule : (nudging 1550000 0).slew.slInit = true ∧
    InOrder ((nudging 1550000 0).slew.slLast :: ([1540000#64, 1550000#64, 1550000#64] ++ [1560000#64])) := by
  unfold InOrder; decide
theorem witness_RampEndsWhenTimeCoversTheGap : (nudging 1550000 0).slew.slInit = true := by decide
theorem witness_DutyIsTheScaledSpeed : (100000000#32).toNat ≤ 100000000 ∧ (0#32).toNat ≤ 100000000 ∧ 0 < (1#16).toNat := by
  decide
theorem witness_ProfileHasThreeZones :
    (320#32).toNat < (running 0 0).move.pTarget.toNat ∧ (26#32).toNat < (running 0 0).move.pPadn.toNat ∧
    (running 0 0).move.pTarget.toNat < (295#32).toNat + (running 0 0).move.pPadn.toNat ∧
    ((running 0 0).move.pPadn.toNat ≤ (27#32).toNat ∧ (27#32).toNat + (running 0 0).move.pPadn.toNat ≤ 321) ∧
    ((running 0 0).move.pPadn.toNat ≤ (294#32).toNat ∧ (294#32).toNat + (running 0 0).move.pPadn.toNat ≤ 321) := by decide
theorem witness_MinPulsesIsTheLargestBand :
    (State.reset.stall.thr0, State.reset.stall.min0) ∈ [(State.reset.stall.thr0, State.reset.stall.min0)] ∧
    State.reset.stall.thr0.toNat ≤ (15000000#32).toNat ∧ (15000000#32).toNat ≤ (15000001#32).toNat := by decide

theorem witness_IdleIterationOnlyUpdates : std.pins.rstN = true ∧ std.seq = .idle := by decide
theorem witness_TargetReachedBrakes : (running 1000 321).pins.rstN = true ∧ (running 1000 321).seq = .mvRun ∧
    (running 1000 321).move.pTarget.toNat ≤ (running 1000 321).pulse.pcnt.toNat := by decide
theorem witness_MoveIterationTestsInOrder :
    (running 501000 320).pins.rstN = true ∧ (running 501000 320).seq = .mvRun ∧
    (running 501000 320).pulse.pcnt.toNat < (running 501000 320).move.pTarget.toNat ∧
    (running 501000 320).move.pCruise.toNat ≤ 100000000 ∧ (running 501000 320).move.pPadspd.toNat ≤ 100000000 := by decide

/-- A settle loop started by `settling` with no move and no hold behind it is a legal state. -/
theorem settling_legal (q : Seq) (c : Cause) (t : Stamp) (cur : Word) (hc : cur.toNat ≤ 100000000)
    (h : q = .brkSettle ∧ c = .none ∨ q = .mvStopOk ∧ c = .none ∨ q = .mvStopFail ∧ c ≠ .none) : Inv (settling q c t cur) := by
  refine ⟨⟨hc, ?_, ?_, ?_, ?_, ?_, ?_⟩, ⟨?_, ?_, ?_, ?_, ?_, ?_, ?_, ?_, ?_⟩, ⟨?_, ?_, ?_, ?_, ?_, ?_⟩, ?_⟩
  all_goals rcases h with ⟨rfl, h⟩ | ⟨rfl, h⟩ | ⟨rfl, h⟩
  all_goals first
    | (simp [settling, std, at', State.reset, commandsZero, inMove, Config.fullScale]; done)
    | simp [settling, std, at', State.reset, h]

theorem witness_SettleReportsTheOutcome :
    Inv (settling .brkSettle .none 100001 201) ∧ Inv (settling .mvStopOk .none 100001 200) ∧
    Inv (settling .mvStopFail .stall 100001 200) ∧ (settling .mvStopFail .stall 100001 200).pins.rstN = true ∧
    (update 100001 (settling .brkSettle .none 100001 201)).slew.slCurrent ≠ 0 ∧
    (update 100001 (settling .mvStopOk .none 100001 200)).slew.slCurrent = 0 :=
  ⟨settling_legal _ _ _ _ (by decide) (by decide), settling_legal _ _ _ _ (by decide) (by decide),
    settling_legal _ _ _ _ (by decide) (by decide), by decide, by decide, by decide⟩

theorem witness_HoldSettleBeginsTheWatch :
    (settling .hdSettle .none 100001 200).pins.rstN = true ∧
    (update 100001 (settling .hdSettle .none 100001 200)).slew.slCurrent = 0 ∧
    (update 100001 (settling .hdNudgeStop .none 100001 201)).slew.slCurrent ≠ 0 := by decide

theorem witness_SettleLoopLastsTheRamp :
    IsSettle (settling .brkSettle .none 100000 201).seq ∧ (settling .brkSettle .none 100000 201).slew.slTarget = 0 ∧
    (settling .brkSettle .none 100000 201).slew.slInit = true ∧
    InOrder ((settling .brkSettle .none 100000 201).slew.slLast :: ([100000#64, 100001#64] ++ [100002#64])) ∧
    (∀ x ∈ [100000#64, 100001#64], (settling .brkSettle .none 100000 201).slew.slRate.toNat *
      (x - (settling .brkSettle .none 100000 201).slew.slLast).toNat <
        (settling .brkSettle .none 100000 201).slew.slCurrent.toNat) ∧
    (settling .brkSettle .none 100000 201).slew.slCurrent.toNat ≤ (settling .brkSettle .none 100000 201).slew.slRate.toNat *
      (100002#64 - (settling .brkSettle .none 100000 201).slew.slLast).toNat := by
  rw [List.forall_mem_cons, List.forall_mem_singleton]
  unfold IsSettle InOrder
  exact ⟨by decide, by decide, by decide, by decide, ⟨by decide, by decide⟩, by decide⟩

theorem witness_WatchIterationRule :
    (watching 1011000 2).pins.rstN = true ∧ (watching 1011000 2).seq = .hdWatch ∧
    (watching 1011000 2).hold.hNspd.toNat ≤ 100000000 ∧
    ((watching 5011000 2).hold.hDur.toNat ≤ (5011000#64 - (watching 5011000 2).holdRun.hStart).toNat) ∧
    ((watching 1011000 2).hold.hDb.toNat < (watching 1011000 2).pulse.pcnt.toNat ∧
      (watching 1011000 2).hold.hGap.toNat ≤ (1011000#64 - (watching 1011000 2).holdRun.nLast).toNat) := by decide

theorem witness_NudgeIterationRule : (nudging 1550000 4).pins.rstN = true ∧ (nudging 1550000 4).seq = .hdNudge ∧
    (nudging 1550000 4).hold.hQuota.toNat ≤ (nudging 1550000 4).pulse.pcnt.toNat ∧
    (nudging 1550000 3).pulse.pcnt.toNat < (nudging 1550000 3).hold.hQuota.toNat := by decide

theorem witness_NudgeWaitNeedsEdges :
    (nudging 1550000 3).pins.rstN = true ∧ (nudging 1550000 3).seq = .hdNudge ∧
    (nudging 1550000 3).pulse.pcnt.toNat < (nudging 1550000 3).hold.hQuota.toNat ∧
    (∀ e ∈ [Input.time 1560000, .iterate, .bus (.write 0x00#8 5#32), .bus (.both 0x08#8 0#32), .fg false, .rst true],
      BringsNoEdge e) := by
  refine ⟨by decide, by decide, by decide, ?_⟩
  simp [BringsNoEdge]

/-- A quiet clock edge, a clock edge of a line that stays high, and the release of an already released reset. -/
theorem witness_EdgelessStepsKeepTheNudge :
    NudgeWaits (nudging 1550000 3) ∧ DeliversNoEdge (nudging 1550000 3) (nextInput (nudging 1550000 3)) ∧
    nextInput (nudging 1550000 3) = .clk none ∧
    (∃ t, step (nudging 1550000 3) = .next t) ∧ DeliversNoEdge (nudging 1550000 3) (.rst true) := by
  unfold NudgeWaits
  exact ⟨by decide, by simp [DeliversNoEdge, nextInput, nudging, watching, at', std, State.reset], rfl, ⟨_, rfl⟩, rfl⟩

/-- A hold at the end of its duration is a legal state, and its iteration ends the session. -/
theorem witness_HoldAlwaysReportsSuccess :
    Inv (watching 5011000 2) ∧ (watching 5011000 2).pins.rstN = true ∧ inHold (watching 5011000 2).seq = true ∧
    perform .iterate (watching 5011000 2) = .next (complete true (watching 5011000 2)) ∧
    inHold (complete true (watching 5011000 2)).seq = false := by
  refine ⟨⟨⟨?_, ?_, ?_, ?_, ?_, ?_, ?_⟩, ⟨?_, ?_, ?_, ?_, ?_, ?_, ?_, ?_, ?_⟩, ⟨?_, ?_, ?_, ?_, ?_, ?_⟩, ?_⟩, ?_, ?_, rfl, ?_⟩
    <;> decide

theorem witness_HostCannotDisturbAnOperation : (running 1000 0).seq ≠ .idle := by decide
theorem witness_SequencerFollowsTheTable : (running 1000 0).pins.rstN = true := by decide

/-- A legal state in the middle of a ramp down, and the step that ends it. -/
theorem witness_EveryStepKeepsLegality :
    Inv { settling .mvStopFail .stall 100001 200 with script := [.iterate] } ∧
    ∃ t, step { settling .mvStopFail .stall 100001 200 with script := [.iterate] } = .next t ∧ t.seq = .idle := by
  have h := settling_legal .mvStopFail .stall 100001 200 (by decide) (by decide)
  exact ⟨⟨⟨h.slew.1, h.slew.2, h.slew.3, h.slew.4, h.slew.5, h.slew.6, h.slew.7⟩,
    ⟨h.profile.1, h.profile.2, h.profile.3, h.profile.4, h.profile.5, h.profile.6, h.profile.7, h.profile.8, h.profile.9⟩,
    ⟨h.flags.1, h.flags.2, h.flags.3, h.flags.4, h.flags.5, h.flags.6⟩, by decide⟩, _, rfl, by decide⟩

theorem witness_OutputsHaveOneWriter : (running 1000 0).pins.rstN = true ∧ (running 1000 0).seq ≠ .idle := by decide
theorem witness_ReadChangesNothing : (running 1000 0).pins.rstN = true := by decide
/-- The bounds of the map: the first and the last byte of a register, `CMD`, and the last view. -/
theorem witness_EveryOffsetReadsItsElement :
    (0x00#8 &&& 0xFC#8) = 0x00#8 ∧ (0x03#8 &&& 0xFC#8) = 0x00#8 ∧ (0x44#8 &&& 0xFC#8) = 0x44#8 ∧
    (0x4B#8 &&& 0xFC#8) = 0x48#8 ∧ (0xAB#8 &&& 0xFC#8) = 0xA8#8 := by decide
theorem witness_StatusWriteClearsTheError : std.pins.rstN = true ∧ (0x04#8).toNat / 4 = 1 ∧ (0x07#8).toNat / 4 = 1 ∧
    (0x20#32).getLsbD 5 = true ∧ (0xFFFFFFDF#32).getLsbD 5 = false := by decide
theorem witness_WritableRegistersReadBack :
    std.pins.rstN = true ∧ (0x08#8).toNat / 4 = 2 ∧ (9 ≤ (0x24#8).toNat / 4 ∧ (0x77#8).toNat / 4 ≤ 0x1D) ∧
    (0x20 ≤ (0x80#8).toNat / 4 ∧ (0x9F#8).toNat / 4 ≤ 0x27) ∧
    ((0x0C#8).toNat / 4 ≠ (0x08#8).toNat / 4 ∧ (0x0C#8).toNat / 4 ≠ 1) := by decide
theorem witness_ReservedAndReadOnlyIgnoreWrites :
    std.pins.rstN = true ∧ (0x78#8).toNat / 4 = 0x1E ∧ (0x7F#8).toNat / 4 = 0x1F ∧ (0x2B ≤ (0xAC#8).toNat / 4 ∧ 0x2B ≤ (0xFF#8).toNat / 4) ∧
    (3 ≤ (0x0C#8).toNat / 4 ∧ (0x23#8).toNat / 4 ≤ 8) ∧ (0x28 ≤ (0xA0#8).toNat / 4 ∧ (0xAB#8).toNat / 4 ≤ 0x2A) := by decide

theorem witness_ResetLeavesTheListedValues : (running 1000 100).pins.rstN = true := by decide
theorem witness_ResetHoldsWhileAsserted :
    { State.reset with pins := { State.reset.pins with rstN := false } }.pins.rstN = false := by decide
theorem witness_ClockCycleOrdersTheAgents : (rising (running 1000 0)).pins.rstN = true ∧
    (rising (running 1000 0)).hidden.fgS2 = true ∧ (rising (running 1000 0)).hidden.fgPrev = false ∧
    (running 1000 0).pins.rstN = true ∧ (running 1000 0).hidden.fgPrev = true := by decide
theorem witness_EdgeAtTheTargetWins :
    (rising (running 20000000 320)).pins.rstN = true ∧ (rising (running 20000000 320)).seq = .mvRun ∧
    (rising (running 20000000 320)).ctrl.fgEn = true ∧ (rising (running 20000000 320)).hidden.fgS2 = true ∧
    (rising (running 20000000 320)).hidden.fgPrev = false ∧
    (rising (running 20000000 320)).pulse.pcnt.toNat + 1 = (rising (running 20000000 320)).move.pTarget.toNat := by decide
theorem witness_EdgeDuringCaptureIsCaptured :
    (rising std).pins.rstN = true ∧ (rising std).seq = .idle ∧ (rising std).ctrl.fgEn = true ∧
    (rising std).hidden.fgS2 = true ∧ (rising std).hidden.fgPrev = false ∧ (rising std).pulse.pcnt.toNat < 4294967295 := by
  decide
theorem witness_RiseIsCountedAtTheThirdClock :
    { rising std with hidden := ⟨false, false, false, 0⟩ }.pins.rstN = true ∧
    { rising std with hidden := ⟨false, false, false, 0⟩ }.seq = .idle ∧
    { rising std with hidden := ⟨false, false, false, 0⟩ }.ctrl.fgEn = true ∧
    { rising std with hidden := ⟨false, false, false, 0⟩ }.script = [] ∧
    { rising std with hidden := ⟨false, false, false, 0⟩ }.pins.fgIn = true ∧
    { rising std with hidden := ⟨false, false, false, 0⟩ }.hidden = ⟨false, false, false, 0⟩ ∧
    { rising std with hidden := ⟨false, false, false, 0⟩ }.pulse.pcnt.toNat < 4294967295 := by decide
theorem witness_WaveformIsHighForDuty : 0 < (1#16).toNat ∧ (nudging 1550000 0).slew.duty.toNat ≤ (1000#16).toNat := by decide

end Sys2Proof.Tests
end

section
/-! PROOFS. The two conversions of spec/00_scope.md that round: a distance to pulses (R14) and a speed to a duty (R16). -/

open Sys2Proof.Machine Sys2Proof.Statements

namespace Sys2Proof.Proofs

/-- A non-positive distance is worth no pulses (R14). -/
theorem pulsesOf_of_nonpos (dist ppm : Word) (h : dist.toInt ≤ 0) : pulsesOf dist ppm = 0 := if_pos h

/-- A positive distance is worth the product over the denominator, rounded half up (R14). -/
theorem pulsesOf_of_pos (dist ppm : Word) (h : 0 < dist.toInt) :
    pulsesOf dist ppm = (dist.toInt.toNat * ppm.toNat + 32768000000) / 65536000000 := if_neg (by omega)

/-- `pulses_of` is the rounded pulse count of R14. -/
theorem pulsesOf_rounded (dist ppm : Word) : RoundedPulses dist ppm (pulsesOf dist ppm) := by
  refine ⟨pulsesOf_of_nonpos dist ppm, fun hpos => ?_⟩
  rw [pulsesOf_of_pos dist ppm hpos]
  exact ⟨Nat.div_mul_le_self _ _, Nat.lt_mul_of_div_lt (Nat.lt_succ_self _) (by decide)⟩

/-- Settles O24: the quotient brackets its dividend, and the largest distance at the largest `PPM` gives the bound. -/
theorem pulsesRoundHalfUp : Obligations.PulsesRoundHalfUp := by
  unfold Obligations.PulsesRoundHalfUp
  exact fun dist ppm => ⟨pulsesOf_rounded dist ppm, pulsesOf_le dist ppm⟩

section
variable (cur : Word) (p : Half) (hcur : cur.toNat ≤ 100000000)
include hcur

/-- The duty of a speed in range is the floor of speed times period over `FS` (R16). -/
theorem dutyOf_toNat : (dutyOf cur p).toNat = cur.toNat * p.toNat / 100000000 := (dutyOf_value cur p hcur).1

/-- The duty is 0 exactly when the product of speed and period is below `FS` (R16). -/
theorem dutyOf_eq_zero_iff : dutyOf cur p = 0 ↔ cur.toNat * p.toNat < 100000000 := by
  rw [← BitVec.toNat_inj, dutyOf_toNat cur p hcur]
  exact Nat.div_eq_zero_iff_lt (by decide)

/-- A speed below `FS` gives a duty below a non-zero period, and `FS` gives the period itself (R16). -/
theorem dutyOf_eq_period_iff (hp : 0 < p.toNat) : dutyOf cur p = p ↔ cur.toNat = 100000000 := by
  rw [← BitVec.toNat_inj, dutyOf_toNat cur p hcur]
  constructor
  · intro hduty
    by_contra hne
    have hprod : cur.toNat * p.toNat < 100000000 * p.toNat := Nat.mul_lt_mul_of_pos_right (by omega) hp
    have hlt := Nat.div_lt_of_lt_mul hprod
    omega
  · intro hfull
    rw [hfull]
    exact Nat.mul_div_cancel_left _ (by decide)

end

/-- Settles O23: the duty is a floor, so it brackets the product; a speed within `FS` keeps it within the period, which it
reaches at `FS` alone. -/
theorem dutyIsTheScaledSpeed : Obligations.DutyIsTheScaledSpeed := by
  unfold Obligations.DutyIsTheScaledSpeed
  intro cur p hcur
  refine ⟨?floor, ?next, (dutyOf_value cur p hcur).2, dutyOf_eq_zero_iff cur p hcur, dutyOf_eq_period_iff cur p hcur⟩
  case floor =>
    rw [dutyOf_toNat cur p hcur]
    exact Nat.div_mul_le_self _ _
  case next =>
    rw [dutyOf_toNat cur p hcur]
    exact Nat.lt_mul_of_div_lt (Nat.lt_succ_self _) (by decide)

end Sys2Proof.Proofs
end

section
/-! PROOFS. Legality is kept by every step (spec/10_state.md R37), and the count falls only to zero (R29). -/

open Sys2Proof.Machine Sys2Proof.Statements

namespace Sys2Proof.Proofs

/-! ### Reset is legal -/

/-- Every state held in reset is legal, whatever the environment's and the model's own fields are (R290). -/
theorem inv_inReset (s : State) : Inv (inReset s) where
  slew := by constructor <;> simp [State.reset, commandsZero]
  profile := by constructor <;> simp [State.reset, inMove]
  flags := by constructor <;> simp [State.reset]
  heldInReset _ := rfl

/-- Settles O42: the state after reset is one that reset holds. -/
theorem resetStateIsLegal : Obligations.ResetStateIsLegal := by
  unfold Obligations.ResetStateIsLegal
  exact inv_inReset State.reset

/-- Whatever input comes while `rst_n` is low, the state afterwards is held in reset (R290). -/
theorem performInReset_eq_inReset (e : Input) (s : State) : ∃ u, performInReset e s = inReset u := by
  have hbus (r : BusReq) : ∃ u, busInReset r s = inReset u := by
    cases r with
    | read off => exact ⟨{ s with busRdata := memRead off (inReset s) }, rfl⟩
    | write off v => exact ⟨s, rfl⟩
    | both off v => exact ⟨{ s with busRdata := Config.freeRdata s.freeCount, freeCount := s.freeCount + 1 }, rfl⟩
  cases e with
  | time t => exact ⟨_, rfl⟩
  | fg b => exact ⟨_, rfl⟩
  | rst b => exact ⟨_, rfl⟩
  | edge => exact ⟨_, rfl⟩
  | iterate => exact ⟨_, rfl⟩
  | bus r => exact hbus r
  | clk r =>
    cases r with
    | none => exact ⟨_, rfl⟩
    | some r => exact hbus r

/-! ### Legality out of reset

Out of reset the last clause of `Inv` says nothing. What is left is carried from state to state part by part: the limiter, the
latched profiles, the result bits. -/

/-- Legality of a state with `rst_n` high. -/
structure LiveInv (s : State) : Prop where
  outOfReset : s.pins.rstN = true
  slew : SlewInv s
  profile : ProfileInv s
  flags : FlagInv s

theorem inv_iff_live (s : State) (hrst : s.pins.rstN = true) : Inv s ↔ LiveInv s :=
  ⟨fun h => ⟨hrst, h.slew, h.profile, h.flags⟩, fun h => ⟨h.slew, h.profile, h.flags, by simp [hrst]⟩⟩

section
variable {s t : State}

/-- A state with the same limiter, in a sequencer state whose demands on it are met. -/
theorem slewInv_of_same (h : SlewInv s) (hslew : t.slew = s.slew)
    (hzero : commandsZero t.seq = true → s.slew.slTarget = 0)
    (hrest : t.seq = .hdWatch → s.slew.slCurrent = 0 ∧ s.slew.duty = 0) : SlewInv t where
  currentInRange := hslew ▸ h.currentInRange
  targetInRange := hslew ▸ h.targetInRange
  ratePositive := hslew ▸ h.ratePositive
  rateBounded := hslew ▸ h.rateBounded
  zeroCommanded := hslew ▸ hzero
  watchAtRest := hslew ▸ hrest
  restBeforeFirstUpdate := hslew ▸ h.restBeforeFirstUpdate

/-- A speed command leaves the limiter legal outside `HD_WATCH`, if it commands zero where zero is demanded (R161). -/
theorem slewInv_of_command {v r : Word} (h : SlewInv s)
    (hslew : t.slew = { s.slew with slTarget := v, slRate := rateOf r }) (hv : v.toNat ≤ Config.fullScale)
    (hzero : commandsZero t.seq = true → v = 0) (hwatch : t.seq ≠ .hdWatch) : SlewInv t where
  currentInRange := by rw [hslew]; exact h.currentInRange
  targetInRange := by rw [hslew]; exact hv
  ratePositive := by rw [hslew]; exact (rateOf_bounds r).1
  rateBounded := by rw [hslew]; exact (rateOf_bounds r).2
  zeroCommanded := by rw [hslew]; exact hzero
  watchAtRest hq := absurd hq hwatch
  restBeforeFirstUpdate := by rw [hslew]; exact h.restBeforeFirstUpdate

/-- An update that leaves the speed at zero leaves the duty at zero (R166). -/
theorem update_duty_of_rest (now : Stamp) (s : State) (h : (update now s).slew.slCurrent = 0) :
    (update now s).slew.duty = 0 := by
  have hcur : (slewAdvance now s.slew).slCurrent = 0 := h
  simp [hcur]

/-- An update keeps the limiter legal: the speed stays between itself and the target, and rest stays rest (R163). -/
theorem slewInv_update (now : Stamp) (h : SlewInv s) : SlewInv (update now s) where
  currentInRange := slewAdvance_slCurrent_le now s.slew _ h.currentInRange h.targetInRange
  targetInRange := by simpa using h.targetInRange
  ratePositive := by simpa using h.ratePositive
  rateBounded := by simpa using h.rateBounded
  zeroCommanded := by simpa using h.zeroCommanded
  watchAtRest hq := by
    have hseq : s.seq = .hdWatch := hq
    have hcur := slewAdvance_rest now s.slew (h.watchAtRest hseq).1 (h.zeroCommanded (by simp [hseq, commandsZero]))
    exact ⟨hcur, update_duty_of_rest now s hcur⟩
  restBeforeFirstUpdate hinit := by simp at hinit

/-- A state with the same latched profiles, in a sequencer state whose demands on them are met. -/
theorem profileInv_of_latched (h : ProfileInv s) (hdir : inMove t.seq = true → t.dir = s.move.pDir)
    (hwindow : t.seq = .mvRun → t.moveRun.wCount.toNat ≤ t.pulse.pcnt.toNat := by simp)
    (hrun : t.seq = .mvRun → t.slew.slTarget = s.move.pCruise ∨ t.slew.slTarget = s.move.pPadspd := by simp)
    (hnudge : t.seq = .hdNudge → t.slew.slTarget = s.hold.hNspd ∧ t.dir = s.hold.hDir := by simp)
    (hmove : t.move = s.move := by simp) (hhold : t.hold = s.hold := by simp) : ProfileInv t where
  paddingHalf := hmove ▸ h.paddingHalf
  targetBounded := hmove ▸ h.targetBounded
  cruiseInRange := hmove ▸ h.cruiseInRange
  padspdInRange := hmove ▸ h.padspdInRange
  nspdInRange := hhold ▸ h.nspdInRange
  windowCount := hwindow
  runSpeed := hmove ▸ hrun
  moveDirection := hmove ▸ hdir
  nudgeSpeed := hhold ▸ hnudge

/-- In `IDLE` nothing is demanded of a state but its latched profiles. -/
theorem profileInv_of_idle (h : ProfileInv s) (hidle : t.seq = .idle) (hmove : t.move = s.move := by simp)
    (hhold : t.hold = s.hold := by simp) : ProfileInv t := by
  refine profileInv_of_latched h ?_ ?_ ?_ ?_ hmove hhold <;> simp [hidle, inMove]

/-- The profiles' part looks at the sequencer, the direction, the commanded speed, the profiles and the two counts only, and the
pulse count may grow. -/
theorem profileInv_of_frame (h : ProfileInv s) (hseq : t.seq = s.seq := by simp) (hdir : t.dir = s.dir := by simp)
    (htarget : t.slew.slTarget = s.slew.slTarget := by simp) (hmove : t.move = s.move := by simp)
    (hhold : t.hold = s.hold := by simp) (hrun : t.moveRun = s.moveRun := by simp)
    (hcount : s.pulse.pcnt.toNat ≤ t.pulse.pcnt.toNat := by simp) : ProfileInv t := by
  refine profileInv_of_latched h ?_ ?_ ?_ ?_ hmove hhold <;> rw [hseq]
  · rw [hdir]; exact h.moveDirection
  · intro hq
    rw [hrun]
    exact (h.windowCount hq).trans hcount
  · rw [htarget]; exact h.runSpeed
  · rw [htarget, hdir]; exact h.nudgeSpeed

theorem flagInv_of_same (h : FlagInv s) (hseq : t.seq = s.seq) (hflags : t.flags = s.flags) : FlagInv t where
  runningUnreported := by rw [hseq, hflags]; exact h.runningUnreported
  causeOfFailure := by rw [hseq, hflags]; exact h.causeOfFailure
  causeElsewhere := by rw [hseq, hflags]; exact h.causeElsewhere
  successNoCause := by rw [hseq, hflags]; exact h.successNoCause
  nothingReported := by rw [hflags]; exact h.nothingReported
  errorCode := by rw [hflags]; exact h.errorCode

/-- The error bits may change alone, if they stay consistent (R26, R123). -/
theorem flagInv_of_error (h : FlagInv s) (hseq : t.seq = s.seq) (hdone : t.flags.done = s.flags.done)
    (hresult : t.flags.result = s.flags.result) (hcause : t.flags.cause = s.flags.cause)
    (herror : t.flags.cmderr = true ↔ t.flags.errc ≠ .none) : FlagInv t where
  runningUnreported := by rw [hseq, hdone, hresult]; exact h.runningUnreported
  causeOfFailure := by rw [hseq, hcause]; exact h.causeOfFailure
  causeElsewhere := by rw [hseq, hcause]; exact h.causeElsewhere
  successNoCause := by rw [hseq, hdone, hresult, hcause]; exact h.successNoCause
  nothingReported := by rw [hdone, hresult]; exact h.nothingReported
  errorCode := herror

/-- A state that differs in nothing legality looks at, but for a pulse count that may have grown. -/
theorem live_of_frame (h : LiveInv s) (hcount : s.pulse.pcnt.toNat ≤ t.pulse.pcnt.toNat)
    (hrst : t.pins.rstN = s.pins.rstN := by simp) (hseq : t.seq = s.seq := by simp)
    (hflags : t.flags = s.flags := by simp) (hdir : t.dir = s.dir := by simp) (hslew : t.slew = s.slew := by simp)
    (hmove : t.move = s.move := by simp) (hhold : t.hold = s.hold := by simp)
    (hrun : t.moveRun = s.moveRun := by simp) : LiveInv t where
  outOfReset := hrst ▸ h.outOfReset
  slew := slewInv_of_same h.slew hslew (hseq ▸ h.slew.zeroCommanded) (hseq ▸ h.slew.watchAtRest)
  profile := profileInv_of_frame h.profile hseq hdir (by rw [hslew]) hmove hhold hrun hcount
  flags := flagInv_of_same h.flags hseq hflags

end

/-! ### The result bits of an operation under way -/

/-- Nothing reported, no cause recorded: the result bits from acceptance on, as long as nothing fails (R122). -/
structure Underway (f : Flags) : Prop where
  done : f.done = false
  result : f.result = false
  cause : f.cause = .none
  errorCode : f.cmderr = true ↔ f.errc ≠ .none

theorem underway_of_running {s : State} {q : Seq} (h : FlagInv s) (hseq : s.seq = q)
    (hq : q ≠ .idle ∧ q ≠ .mvStopFail := by decide) : Underway s.flags := by
  subst hseq
  obtain ⟨hdone, hresult⟩ := h.runningUnreported hq.1
  exact ⟨hdone, hresult, h.causeElsewhere hq.1 hq.2, h.errorCode⟩

theorem underway_prologue {s : State} (h : FlagInv s) : Underway (prologue s).flags := ⟨rfl, rfl, rfl, h.errorCode⟩

theorem flagInv_of_underway {t : State} (h : Underway t.flags) (hfail : t.seq ≠ .mvStopFail) : FlagInv t where
  runningUnreported _ := ⟨h.done, h.result⟩
  causeOfFailure hq := absurd hq hfail
  causeElsewhere _ _ := h.cause
  successNoCause _ hdone := by simp [h.done] at hdone
  nothingReported _ := h.result
  errorCode := h.errorCode

/-! ### The named operations keep legality -/

section
variable {s : State}

theorem update_live (now : Stamp) (h : LiveInv s) : LiveInv (update now s) where
  outOfReset := h.outOfReset
  slew := slewInv_update now h.slew
  profile := profileInv_of_frame h.profile
  flags := flagInv_of_same h.flags rfl rfl

/-- Completion is legal when it reports success exactly without a cause (R126). -/
theorem complete_live (r : Bool) (h : LiveInv s) (hr : r = true ↔ s.flags.cause = .none) : LiveInv (complete r s) where
  outOfReset := h.outOfReset
  slew := slewInv_of_same h.slew rfl (by simp [commandsZero]) (by simp)
  profile := profileInv_of_idle h.profile rfl
  flags := by constructor <;> simp [hr, h.flags.errorCode]

/-- The Edge agent never lowers the count (R141). -/
theorem le_increment_pcnt (s : State) : s.pulse.pcnt.toNat ≤ (increment s).pulse.pcnt.toNat := by
  rw [increment_pulse]
  split
  · change s.pulse.pcnt.toNat ≤ (satInc s.pulse.pcnt).toNat
    have hsat := satInc_value s.pulse.pcnt
    simp only [Config.counterMax] at hsat
    omega
  · rfl

theorem increment_live (h : LiveInv s) : LiveInv (increment s) := live_of_frame h (le_increment_pcnt s)

/-- Braking into a settle loop keeps the limiter and the profiles legal (R169, R131). -/
theorem slewInv_goto_brake {q : Seq} (h : SlewInv s) (hq : IsSettle q) : SlewInv (goto q (brake s)) := by
  rw [goto_brake]
  refine slewInv_of_command h rfl (by simp) (fun _ => rfl) ?_
  rintro rfl
  simp [IsSettle] at hq

theorem profileInv_goto_brake {q : Seq} (h : ProfileInv s) (hq : IsSettle q)
    (hdir : inMove q = true → s.dir = s.move.pDir) : ProfileInv (goto q (brake s)) := by
  refine profileInv_of_latched h hdir ?_ ?_ ?_ <;>
    · rintro rfl
      simp [IsSettle] at hq

/-- Braking into a settle loop of success (R169). -/
theorem goto_brake_live {q : Seq} (h : LiveInv s) (hf : Underway s.flags) (hq : IsSettle q) (hfail : q ≠ .mvStopFail)
    (hdir : inMove q = true → s.dir = s.move.pDir) : LiveInv (goto q (brake s)) where
  outOfReset := h.outOfReset
  slew := slewInv_goto_brake h.slew hq
  profile := profileInv_goto_brake h.profile hq hdir
  flags := flagInv_of_underway hf hfail

/-- The failure entry (R266): the one fixed settle loop, with a cause. -/
theorem raiseFailure_live {c : Cause} (h : LiveInv s) (hrun : s.seq = .mvRun) (hc : c ≠ .none) :
    LiveInv (raiseFailure c s) where
  outOfReset := h.outOfReset
  slew := slewInv_of_command h.slew rfl (by simp) (by simp) (by simp)
  profile := profileInv_of_latched h.profile (fun _ => h.profile.moveDirection (by simp [hrun, inMove]))
  flags := by
    have hf := underway_of_running h.flags hrun
    constructor <;> simp [hf.done, hf.result, hc, hf.errorCode]

end

/-! ### Commands keep legality -/

section
variable {s : State}

theorem prologue_live (h : LiveInv s) (hidle : s.seq = .idle) : LiveInv (prologue s) where
  outOfReset := h.outOfReset
  slew := slewInv_of_same h.slew rfl h.slew.zeroCommanded h.slew.watchAtRest
  profile := profileInv_of_frame h.profile
  flags := flagInv_of_underway (underway_prologue h.flags) (by simp [hidle])

/-- The profile a move latches: the padding at most half of a bounded target, both speeds in range (R194, R195). -/
theorem moveProfileOf_bounds (d : Bool) (v : Word) (s : State) :
    2 * (moveProfileOf d v s).pPadn.toNat ≤ (moveProfileOf d v s).pTarget.toNat ∧
    (moveProfileOf d v s).pTarget.toNat ≤ 140737488 := by
  have htarget := pulsesOf_le s.opd.mvDist s.cfg.ppm
  have hpad := paddingOf_half (pulsesOf s.opd.mvDist s.cfg.ppm) s.opd.mvPadDist s.cfg.ppm
  simp only [moveProfileOf, BitVec.toNat_ofNat]
  omega

theorem beginMove_live (d : Bool) (v : Word) (now : Stamp) (h : LiveInv s) (hf : Underway s.flags) :
    LiveInv (beginMove d v now s) := by
  rw [beginMove_eq]
  obtain ⟨hpad, htarget⟩ := moveProfileOf_bounds d v s
  refine ⟨h.outOfReset, slewInv_of_command h.slew rfl ?speed (by simp [commandsZero]) (by simp), ?profile,
    flagInv_of_underway hf (by simp)⟩
  case speed => split <;> exact speedOf_le _
  case profile =>
    refine ⟨hpad, htarget, speedOf_le _, speedOf_le _, h.profile.nspdInRange, by simp, fun _ => ?_, fun _ => rfl, by simp⟩
    dsimp only
    split
    · exact .inr rfl
    · exact .inl rfl

theorem startHold_live (d : Bool) (h : LiveInv s) (hidle : s.seq = .idle) (hf : Underway s.flags) :
    LiveInv (startHold d s) := by
  have hlatched : LiveInv { s with hold := holdProfileOf d s, holdRun := { s.holdRun with nudgeCnt := 0 } } :=
    { outOfReset := h.outOfReset
      slew := slewInv_of_same h.slew rfl h.slew.zeroCommanded h.slew.watchAtRest
      profile := { h.profile with
        nspdInRange := speedOf_le _
        nudgeSpeed := by simp [hidle] }
      flags := flagInv_of_same h.flags rfl rfl }
  exact goto_brake_live hlatched hf (by simp [IsSettle]) (by simp) (by simp [inMove])

/-- An accepted command, on the state its prologue left (R121). -/
theorem actionOf_live (i : Instr) (h : LiveInv s) (hidle : s.seq = .idle) (hf : Underway s.flags) :
    LiveInv (actionOf i s) := by
  have hdone {t : State} (ht : LiveInv t) (hflags : t.flags = s.flags) : LiveInv (complete true t) :=
    complete_live true ht (by simp [hflags, hf.cause])
  have hmove (d : Bool) (v : Word) (now : Stamp) : LiveInv (startMove d v now s) := by
    rcases startMove_cases d v now s with ⟨-, e⟩ | ⟨-, e⟩ <;> rw [e]
    · exact hdone h rfl
    · exact beginMove_live d v now h hf
  cases i with
  | nop => exact hdone h rfl
  | move d => exact hmove _ _ _
  | wind => exact hmove _ _ _
  | unwind => exact hmove _ _ _
  | hold d => exact startHold_live d h hidle hf
  | brake => exact goto_brake_live h hf (by simp [IsSettle]) (by simp) (by simp [inMove])
  | settgt =>
    refine hdone ⟨h.outOfReset, ?slew, ?profile, flagInv_of_same h.flags rfl rfl⟩ rfl
    case slew => exact slewInv_of_command h.slew rfl (speedOf_le _) (by simp [hidle, commandsZero]) (by simp [hidle])
    case profile => exact profileInv_of_idle h.profile hidle
  | setdir d =>
    refine hdone ⟨h.outOfReset, ?slew, ?profile, flagInv_of_same h.flags rfl rfl⟩ rfl
    case slew => exact slewInv_of_same h.slew rfl h.slew.zeroCommanded h.slew.watchAtRest
    case profile => exact profileInv_of_idle h.profile hidle
  | rdrst =>
    refine hdone ⟨h.outOfReset, ?slew, ?profile, flagInv_of_same h.flags rfl rfl⟩ rfl
    case slew => exact slewInv_of_same h.slew rfl h.slew.zeroCommanded h.slew.watchAtRest
    case profile => exact profileInv_of_idle h.profile hidle

end

/-! ### Host accesses keep legality -/

section
variable {s : State}

theorem refuse_live {c : ErrCode} (h : LiveInv s) (hc : c ≠ .none) : LiveInv (refuse c s) where
  outOfReset := h.outOfReset
  slew := slewInv_of_same h.slew rfl h.slew.zeroCommanded h.slew.watchAtRest
  profile := profileInv_of_frame h.profile
  flags := flagInv_of_error h.flags rfl rfl rfl rfl (by simp [hc])

theorem writeReg_live (r : BusReg) (v : Word) (h : LiveInv s) : LiveInv (writeReg r v s) := by
  obtain ⟨hseq, hdir, hpulse, hslew, hmove, hrun, hhold, -, -, hpins, -, hdone, hresult, hcause⟩ := writeReg_frame r v s
  have herror : (writeReg r v s).flags.cmderr = true ↔ (writeReg r v s).flags.errc ≠ .none := by
    rcases writeReg_error r v s with ⟨hcmderr, herrc⟩ | hflags
    · simp [hcmderr, herrc]
    · rw [hflags]; exact h.flags.errorCode
  exact
    { outOfReset := hpins ▸ h.outOfReset
      slew := slewInv_of_same h.slew hslew (hseq ▸ h.slew.zeroCommanded) (hseq ▸ h.slew.watchAtRest)
      profile := profileInv_of_frame h.profile hseq hdir (by rw [hslew]) hmove hhold hrun (by rw [hpulse])
      flags := flagInv_of_error h.flags hseq hdone hresult hcause herror }

theorem memWrite_live {off : Offset} {v : Word} {t : State} (h : LiveInv s) (ht : memWrite off v s = .next t) :
    LiveInv t := by
  rcases memWrite_cases off v s with ⟨i, -, hidle, e⟩ | ⟨c, hc, e⟩ | ⟨r, -, e⟩ | e <;>
    obtain rfl := Host.Outcome.next.inj (e.symm.trans ht)
  · exact actionOf_live i (prologue_live h hidle) hidle (underway_prologue h.flags)
  · exact refuse_live h hc
  · exact writeReg_live r v h
  · exact h

theorem busAccess_live {r : BusReq} {t : State} (h : LiveInv s) (ht : busAccess r s = .next t) : LiveInv t := by
  rcases busAccess_cases r s with ⟨d, n, e⟩ | ⟨off, v, d, n, e⟩
  · obtain rfl := Host.Outcome.next.inj (e.symm.trans ht)
    exact live_of_frame h le_rfl
  · have hread : LiveInv { s with busRdata := d, freeCount := n } := live_of_frame h le_rfl
    exact memWrite_live hread (e.symm.trans ht)

end

/-! ### Iterations keep legality -/

section
variable {s : State}

/-- A settle loop is legal if its exit is, from the updated state at rest (R131). -/
theorem settle_live (now : Stamp) (exit : State → State) (h : LiveInv s)
    (hexit : LiveInv (update now s) → (update now s).slew.slCurrent = 0 → LiveInv (exit (update now s))) :
    LiveInv (settle now exit s) := by
  have hupdate := update_live now h
  rcases settle_cases now exit s with ⟨hrest, e⟩ | ⟨-, e⟩ <;> rw [e]
  · exact hexit hupdate hrest
  · exact hupdate

/-- Entering `HD_WATCH` at rest out of a settle loop of the hold (R232, R237). -/
theorem enterWatch_live {pulse : Pulse} {ctrl : Ctrl} {run : HoldRun} (h : LiveInv s)
    (hseq : s.seq = .hdSettle ∨ s.seq = .hdNudgeStop) (hcur : s.slew.slCurrent = 0) (hduty : s.slew.duty = 0) :
    LiveInv { s with seq := .hdWatch, pulse := pulse, ctrl := ctrl, holdRun := run } where
  outOfReset := h.outOfReset
  slew := slewInv_of_same h.slew rfl (fun _ => h.slew.zeroCommanded (by rcases hseq with e | e <;> simp [e, commandsZero]))
    (fun _ => ⟨hcur, hduty⟩)
  profile := profileInv_of_latched h.profile (by simp [inMove])
  flags := by
    have hf : Underway s.flags := by rcases hseq with e | e <;> exact underway_of_running h.flags e
    exact flagInv_of_underway hf (by simp)

theorem startNudge_live (h : LiveInv s) (hseq : s.seq = .hdWatch) : LiveInv (startNudge s) where
  outOfReset := h.outOfReset
  slew := slewInv_of_command h.slew rfl (speedOf_le _) (by simp [startNudge, commandsZero]) (by simp [startNudge])
  profile := profileInv_of_latched h.profile (by simp [startNudge, inMove]) (by simp [startNudge]) (by simp [startNudge])
    (fun _ => ⟨speedOf_of_le _ h.profile.nspdInRange, rfl⟩) rfl rfl
  flags := by
    have hf : Underway s.flags := underway_of_running h.flags hseq
    exact flagInv_of_underway hf (by simp [startNudge])

/-- The profile part of a move iteration commands one of the two latched speeds, or keeps the one in force (R200, R201). -/
theorem reissue_live {v : Word} (h : LiveInv s) (hseq : s.seq = .mvRun)
    (hv : v = s.move.pCruise ∨ v = s.move.pPadspd) : LiveInv (reissue v s) := by
  rcases reissue_cases v s with ⟨-, e⟩ | ⟨-, e⟩ <;> rw [e]
  · have hrange : v.toNat ≤ Config.fullScale := by
      rcases hv with rfl | rfl
      · exact h.profile.cruiseInRange
      · exact h.profile.padspdInRange
    exact
      { outOfReset := h.outOfReset
        slew := slewInv_of_command h.slew rfl (speedOf_le _) (by simp [hseq, commandsZero]) (by simp [hseq])
        profile := profileInv_of_latched h.profile h.profile.moveDirection h.profile.windowCount
          (fun _ => by simpa [speedOf_of_le v hrange] using hv) (by simp [hseq])
        flags := flagInv_of_same h.flags rfl rfl }
  · exact h

theorem timeoutCheck_live (now : Stamp) (h : LiveInv s) (hseq : s.seq = .mvRun) : LiveInv (timeoutCheck now s) := by
  rcases timeoutCheck_cases now s with ⟨-, e⟩ | ⟨-, e⟩ <;> rw [e]
  · exact raiseFailure_live h hseq (by simp)
  · exact h

/-- The stall window takes the count it is given as its new start, so that count may not be ahead of the counter (R205). -/
theorem stallCheck_live (now : Stamp) (h : LiveInv s) (hseq : s.seq = .mvRun) :
    LiveInv (stallCheck now s.pulse.pcnt s) := by
  rcases stallCheck_cases now s.pulse.pcnt s with ⟨-, -, e⟩ | ⟨-, -, e⟩ | ⟨-, e⟩ <;> rw [e]
  · exact raiseFailure_live h hseq (by simp)
  · refine timeoutCheck_live now ⟨h.outOfReset, ?slew, ?profile, flagInv_of_same h.flags rfl rfl⟩ hseq
    case slew => exact slewInv_of_same h.slew rfl h.slew.zeroCommanded h.slew.watchAtRest
    case profile =>
      exact profileInv_of_latched h.profile h.profile.moveDirection (by simp) h.profile.runSpeed h.profile.nudgeSpeed
  · exact timeoutCheck_live now h hseq

theorem profiled_live (now : Stamp) (h : LiveInv s) (hseq : s.seq = .mvRun) : LiveInv (profiled now s) :=
  reissue_live (update_live now h) hseq (profile_mem s.move s.pulse.pcnt)

/-- The profile part changes the limiter alone (R200, R201). -/
theorem profiled_frame (now : Stamp) (s : State) :
    (profiled now s).seq = s.seq ∧ (profiled now s).pulse = s.pulse := by
  obtain ⟨r, -, e⟩ := profiled_eq now s
  simp [e]

theorem moveIter_live (now : Stamp) (h : LiveInv s) (hseq : s.seq = .mvRun) : LiveInv (moveIter now s) := by
  obtain ⟨hpseq, hpulse⟩ := profiled_frame now s
  rcases moveIter_cases now s with ⟨-, e⟩ | ⟨-, e⟩ <;> rw [e]
  · exact goto_brake_live h (underway_of_running h.flags hseq) (by simp [IsSettle]) (by simp)
      (fun _ => h.profile.moveDirection (by simp [hseq, inMove]))
  · rw [← hpulse]
    exact stallCheck_live now (profiled_live now h hseq) (hpseq.trans hseq)

theorem watchIter_live (now : Stamp) (h : LiveInv s) (hseq : s.seq = .hdWatch) : LiveInv (watchIter now s) := by
  rcases watchIter_cases now s with ⟨-, e⟩ | ⟨-, -, -, e⟩ | ⟨-, -, e⟩ <;> rw [e]
  · exact complete_live true h (by simp [h.flags.causeElsewhere, hseq])
  · exact startNudge_live (update_live now h) hseq
  · exact update_live now h

theorem nudgeIter_live (now : Stamp) (h : LiveInv s) (hseq : s.seq = .hdNudge) : LiveInv (nudgeIter now s) := by
  rcases nudgeIter_cases now s with ⟨-, e⟩ | ⟨-, e⟩ <;> rw [e]
  · exact goto_brake_live h (underway_of_running h.flags hseq) (by simp [IsSettle]) (by simp)
      (by simp [inMove])
  · exact update_live now h

/-- A settle loop that ends with a completion: successful exactly outside `MV_STOP_FAIL` (R207, R208, R175). -/
theorem settle_complete_live (now : Stamp) (r : Bool) (h : LiveInv s) (hr : r = true ↔ s.flags.cause = .none) :
    LiveInv (settle now (complete r) s) :=
  settle_live now _ h fun hupdate _ => complete_live r hupdate hr

/-- A settle loop of the hold, whose exit enters `HD_WATCH` (R232, R237). -/
theorem settle_watch_live (now : Stamp) (exit : State → State) (h : LiveInv s)
    (hseq : s.seq = .hdSettle ∨ s.seq = .hdNudgeStop)
    (hexit : ∀ t, ∃ pulse ctrl run, exit t = { t with seq := .hdWatch, pulse := pulse, ctrl := ctrl, holdRun := run }) :
    LiveInv (settle now exit s) := by
  refine settle_live now exit h fun hupdate hrest => ?_
  obtain ⟨pulse, ctrl, run, e⟩ := hexit (update now s)
  rw [e]
  exact enterWatch_live hupdate hseq hrest (update_duty_of_rest now s hrest)

/-- Every iteration keeps legality, one case per state of the sequencer (R128). -/
theorem iterate_live (h : LiveInv s) : LiveInv (iterate s) := by
  have hcause (hidle : s.seq ≠ .idle) (hfail : s.seq ≠ .mvStopFail) : true = true ↔ s.flags.cause = .none := by
    simp [h.flags.causeElsewhere hidle hfail]
  unfold iterate iterateAt
  cases hseq : s.seq with
  | idle => exact update_live _ h
  | mvRun => exact moveIter_live _ h hseq
  | mvStopOk => exact settle_complete_live _ true h (hcause (by simp [hseq]) (by simp [hseq]))
  | mvStopFail => exact settle_complete_live _ false h (by simp [h.flags.causeOfFailure hseq])
  | hdSettle => exact settle_watch_live _ _ h (.inl hseq) fun _ => ⟨_, _, _, rfl⟩
  | hdWatch => exact watchIter_live _ h hseq
  | hdNudge => exact nudgeIter_live _ h hseq
  | hdNudgeStop => exact settle_watch_live _ _ h (.inr hseq) fun _ => ⟨_, _, _, rfl⟩
  | brkSettle => exact settle_complete_live _ true h (hcause (by simp [hseq]) (by simp [hseq]))

end

/-! ### Every step -/

/-- The state the edge detector leaves in a clock cycle, before the host's access (R70). -/
def detected (s : State) : State := if edgeDetected s.hidden then increment s else s

/-- Every clock edge is the iteration on what the detector and the host's access, if there is one, left, with the hidden flops
moved on (R70). -/
theorem clkEdge_cases (r : Option BusReq) (s : State) :
    ∃ u, (u = detected s ∨ ∃ q, busAccess q (detected s) = .next u) ∧
      clkEdge r s = .next { iterate u with hidden := hiddenNext s.pins.fgIn s.cfg.pwmPeriod s.hidden } := by
  cases r with
  | none => exact ⟨detected s, .inl rfl, clkEdge_next none s _ (cycleAgents_none s)⟩
  | some q =>
    obtain ⟨u, hu⟩ := busAccess_next q (detected s)
    exact ⟨u, .inr ⟨q, hu⟩, clkEdge_next (some q) s _ (cycleAgents_some q s u hu)⟩

theorem clkEdge_live {r : Option BusReq} {s t : State} (h : LiveInv s) (ht : clkEdge r s = .next t) : LiveInv t := by
  have hdetected : LiveInv (detected s) := by
    unfold detected
    split
    · exact increment_live h
    · exact h
  obtain ⟨u, hu, e⟩ := clkEdge_cases r s
  obtain rfl := Host.Outcome.next.inj (e.symm.trans ht)
  have hlive : LiveInv u := by
    rcases hu with rfl | ⟨q, hq⟩
    · exact hdetected
    · exact busAccess_live hdetected hq
  exact live_of_frame (iterate_live hlive) le_rfl

/-- Every input out of reset leaves a legal state: most keep it out of reset, one resets it. -/
theorem performRunning_inv {e : Input} {s t : State} (h : LiveInv s) (ht : performRunning e s = .next t) : Inv t := by
  have hlive {u : State} (hu : LiveInv u) : Inv u := (inv_iff_live u hu.outOfReset).2 hu
  cases e with
  | time now => obtain rfl := Host.Outcome.next.inj ht; exact hlive (live_of_frame h le_rfl)
  | fg b => obtain rfl := Host.Outcome.next.inj ht; exact hlive (live_of_frame h le_rfl)
  | rst b =>
    cases b with
    | true => obtain rfl := Host.Outcome.next.inj ht; exact hlive h
    | false => obtain rfl := Host.Outcome.next.inj ht; exact inv_inReset _
  | edge => obtain rfl := Host.Outcome.next.inj ht; exact hlive (increment_live h)
  | iterate => obtain rfl := Host.Outcome.next.inj ht; exact hlive (iterate_live h)
  | bus r => exact hlive (busAccess_live h ht)
  | clk r => exact hlive (clkEdge_live h ht)

theorem perform_inv {e : Input} {s t : State} (h : Inv s) (ht : perform e s = .next t) : Inv t := by
  rcases perform_cases e s with ⟨-, hp⟩ | ⟨hrst, hp⟩
  · obtain ⟨u, hu⟩ := performInReset_eq_inReset e s
    obtain rfl := Host.Outcome.next.inj (hp.symm.trans ht)
    exact hu ▸ inv_inReset u
  · exact performRunning_inv ((inv_iff_live s hrst).1 h) (hp.symm.trans ht)

/-- Legality says nothing of the inputs still to come. -/
theorem dropInput_inv {s : State} (h : Inv s) : Inv (dropInput s) := by
  cases hrst : s.pins.rstN with
  | true => exact (inv_iff_live (dropInput s) hrst).2 (live_of_frame ((inv_iff_live s hrst).1 h) le_rfl)
  | false =>
    have hheld : dropInput s = inReset (dropInput s) := by
      conv_lhs => rw [h.heldInReset hrst]
      rfl
    exact hheld ▸ inv_inReset _

/-- Settles O43: legality is carried part by part through every operation, command, host access and iteration. -/
theorem everyStepKeepsLegality : Obligations.EveryStepKeepsLegality := by
  unfold Obligations.EveryStepKeepsLegality
  exact fun s t h hstep => perform_inv (dropInput_inv h) hstep

/-! ### The pulse count (R29) -/

/-- The count is what it was, or zero: what everything but the Edge agent does to it. -/
def CountKept (s t : State) : Prop := t.pulse.pcnt = s.pulse.pcnt ∨ t.pulse.pcnt = 0

theorem CountKept.trans {s t u : State} (h : CountKept s t) (h' : CountKept t u) : CountKept s u := by
  rcases h' with e | e
  · exact h.imp e.trans e.trans
  · exact .inr e

/-- A count that is kept or reset after it has grown has not fallen but to zero. -/
theorem CountKept.le_or_zero {s t u : State} (h : CountKept t u) (hle : s.pulse.pcnt.toNat ≤ t.pulse.pcnt.toNat) :
    s.pulse.pcnt.toNat ≤ u.pulse.pcnt.toNat ∨ u.pulse.pcnt = 0 := by
  rcases h with e | e
  · exact .inl (e ▸ hle)
  · exact .inr e

theorem stallCheck_pulse (now : Stamp) (c : Word) (s : State) : (stallCheck now c s).pulse = s.pulse := by
  have htimeout (t : State) : (timeoutCheck now t).pulse = t.pulse := by
    rcases timeoutCheck_cases now t with ⟨-, e⟩ | ⟨-, e⟩ <;> simp [e]
  rcases stallCheck_cases now c s with ⟨-, -, e⟩ | ⟨-, -, e⟩ | ⟨-, e⟩ <;> simp [e, htimeout]

theorem moveIter_pulse (now : Stamp) (s : State) : (moveIter now s).pulse = s.pulse := by
  rcases moveIter_cases now s with ⟨-, e⟩ | ⟨-, e⟩ <;> rw [e]
  · rfl
  · exact (stallCheck_pulse _ _ _).trans (profiled_frame now s).2

theorem settle_countKept (now : Stamp) (exit : State → State) (s : State) (hexit : ∀ t, CountKept t (exit t)) :
    CountKept s (settle now exit s) := by
  rcases settle_cases now exit s with ⟨-, e⟩ | ⟨-, e⟩ <;> rw [e]
  · exact hexit (update now s)
  · exact .inl rfl

/-- An iteration leaves the count alone, or resets it on entering `HD_WATCH` or `HD_NUDGE` (R232, R235, R237). -/
theorem iterate_countKept (s : State) : CountKept s (iterate s) := by
  unfold iterate iterateAt
  generalize s.pins.timeUs = now
  cases s.seq with
  | idle => exact .inl rfl
  | mvRun => exact .inl (congrArg Pulse.pcnt (moveIter_pulse now s))
  | mvStopOk => exact settle_countKept now _ s fun _ => .inl rfl
  | mvStopFail => exact settle_countKept now _ s fun _ => .inl rfl
  | hdSettle => exact settle_countKept now _ s fun _ => .inr rfl
  | hdWatch =>
    rcases watchIter_cases now s with ⟨-, e⟩ | ⟨-, -, -, e⟩ | ⟨-, -, e⟩ <;> dsimp only <;> rw [e]
    · exact .inl rfl
    · exact .inr rfl
    · exact .inl rfl
  | hdNudge => rcases nudgeIter_cases now s with ⟨-, e⟩ | ⟨-, e⟩ <;> exact .inl (by simp [e])
  | hdNudgeStop => exact settle_countKept now _ s fun _ => .inr rfl
  | brkSettle => exact settle_countKept now _ s fun _ => .inl rfl

/-- A command leaves the count alone, or resets it: RDRST and the moves do (R146, R195). -/
theorem actionOf_countKept (i : Instr) (s : State) : CountKept s (actionOf i s) := by
  have hmove (d : Bool) (v : Word) (now : Stamp) : CountKept s (startMove d v now s) := by
    rcases startMove_cases d v now s with ⟨-, e⟩ | ⟨-, e⟩ <;> rw [e]
    · exact .inl rfl
    · exact .inr rfl
  cases i with
  | nop => exact .inl rfl
  | move d => exact hmove _ _ _
  | wind => exact hmove _ _ _
  | unwind => exact hmove _ _ _
  | hold d => exact .inl rfl
  | brake => exact .inl rfl
  | settgt => exact .inl rfl
  | setdir d => exact .inl rfl
  | rdrst => exact .inr rfl

theorem memWrite_countKept {off : Offset} {v : Word} {s t : State} (ht : memWrite off v s = .next t) : CountKept s t := by
  rcases memWrite_cases off v s with ⟨i, -, -, e⟩ | ⟨c, -, e⟩ | ⟨r, -, e⟩ | e <;>
    obtain rfl := Host.Outcome.next.inj (e.symm.trans ht)
  · exact actionOf_countKept i (prologue s)
  · exact .inl rfl
  · obtain ⟨-, -, hpulse, -⟩ := writeReg_frame r v s
    exact .inl (congrArg Pulse.pcnt hpulse)
  · exact .inl rfl

theorem busAccess_countKept {r : BusReq} {s t : State} (ht : busAccess r s = .next t) : CountKept s t := by
  rcases busAccess_cases r s with ⟨d, n, e⟩ | ⟨off, v, d, n, e⟩
  · obtain rfl := Host.Outcome.next.inj (e.symm.trans ht)
    exact .inl rfl
  · have hkept : CountKept { s with busRdata := d, freeCount := n } t := memWrite_countKept (e.symm.trans ht)
    exact hkept

/-- A clock edge counts at most one edge event, and then keeps the count or resets it (R70). -/
theorem clkEdge_countKept (r : Option BusReq) (s : State) : ∃ t, clkEdge r s = .next t ∧ CountKept (detected s) t := by
  obtain ⟨u, hu, e⟩ := clkEdge_cases r s
  have hbus : CountKept (detected s) u := by
    rcases hu with rfl | ⟨q, hq⟩
    · exact .inl rfl
    · exact busAccess_countKept hq
  exact ⟨_, e, hbus.trans (iterate_countKept u)⟩

/-- Settles O44: the Edge agent raises the count, everything else keeps it or zeroes it, and reset zeroes it. -/
theorem countFallsOnlyToZero : Obligations.CountFallsOnlyToZero := by
  unfold Obligations.CountFallsOnlyToZero
  intro s e
  have hdetected : s.pulse.pcnt.toNat ≤ (detected s).pulse.pcnt.toNat := by
    unfold detected
    split
    · exact le_increment_pcnt s
    · rfl
  rcases perform_cases e s with ⟨-, hp⟩ | ⟨-, hp⟩ <;> rw [hp]
  · obtain ⟨u, hu⟩ := performInReset_eq_inReset e s
    exact ⟨_, rfl, .inr (hu ▸ rfl)⟩
  · cases e with
    | time now => exact ⟨_, rfl, .inl le_rfl⟩
    | fg b => exact ⟨_, rfl, .inl le_rfl⟩
    | rst b =>
      cases b with
      | true => exact ⟨_, rfl, .inl le_rfl⟩
      | false => exact ⟨_, rfl, .inr rfl⟩
    | edge => exact ⟨_, rfl, .inl (le_increment_pcnt s)⟩
    | iterate => exact ⟨_, rfl, (iterate_countKept s).le_or_zero le_rfl⟩
    | bus r =>
      obtain ⟨t, ht⟩ := busAccess_next r s
      exact ⟨t, ht, (busAccess_countKept ht).le_or_zero le_rfl⟩
    | clk r =>
      obtain ⟨t, ht, hcount⟩ := clkEdge_countKept r s
      exact ⟨t, ht, hcount.le_or_zero hdetected⟩

end Sys2Proof.Proofs
end

section
/-! PROOFS. The word of `STATUS` (spec/10_state.md R26), the reset values (R38), and the hidden state below the agents: the
synchroniser of `fg_in` and the waveform counter (R36). -/

open Sys2Proof.Machine Sys2Proof.Statements

namespace Sys2Proof.Proofs

/-! ### `STATUS` -/

/-- A field of `STATUS` is a field of the concatenation it is written as, at its own width. -/
theorem extractLsb'_statusWord (s : State) (i n : Nat) :
    (statusWord s).extractLsb' i n =
      (0#16 ++ seqBits s.seq ++ 0#1 ++ BitVec.ofBool s.dir ++ BitVec.ofBool s.slew.slInit ++ BitVec.ofBool (atTarget s)
        ++ errcBits s.flags.errc ++ BitVec.ofBool s.flags.cmderr ++ causeBits s.flags.cause
        ++ BitVec.ofBool s.flags.result ++ BitVec.ofBool s.flags.done ++ BitVec.ofBool (busy s)).extractLsb' i n := rfl

/-- A bit is known from the field of width one at its place. -/
theorem getLsbD_of_field {w : Word} {i : Nat} {b : Bool} (h : w.extractLsb' i 1 = BitVec.ofBool b) : w.getLsbD i = b := by
  have hbit := congrArg (fun v => v.getLsbD 0) h
  simpa using hbit

/-- The fields that hold a code, cut out of the word at their places (R26). -/
theorem statusWord_codes (s : State) :
    (statusWord s).extractLsb' 3 2 = causeBits s.flags.cause ∧ (statusWord s).extractLsb' 6 2 = errcBits s.flags.errc ∧
    (statusWord s).extractLsb' 12 4 = seqBits s.seq ∧ (statusWord s).extractLsb' 16 16 = 0 := by
  simp only [extractLsb'_statusWord]
  refine ⟨?_, ?_, ?_, ?_⟩ <;>
    simp (disch := omega) [BitVec.extractLsb'_append_eq_of_le, BitVec.extractLsb'_append_eq_of_add_le, -Nat.reduceAdd]

/-- The single bits of the word, at their places (R26). -/
theorem statusWord_bits (s : State) :
    (statusWord s).getLsbD 0 = busy s ∧ (statusWord s).getLsbD 1 = s.flags.done ∧
    (statusWord s).getLsbD 2 = s.flags.result ∧ (statusWord s).getLsbD 5 = s.flags.cmderr ∧
    (statusWord s).getLsbD 8 = atTarget s ∧ (statusWord s).getLsbD 9 = s.slew.slInit ∧
    (statusWord s).getLsbD 10 = s.dir ∧ (statusWord s).getLsbD 11 = false := by
  refine ⟨?_, ?_, ?_, ?_, ?_, ?_, ?_, ?_⟩ <;> apply getLsbD_of_field <;> rw [extractLsb'_statusWord] <;>
    simp (disch := omega) [BitVec.extractLsb'_append_eq_of_le, BitVec.extractLsb'_append_eq_of_add_le, -Nat.reduceAdd]

theorem causeBits_code (c : Cause) : [Cause.none, .stall, .timeout][(causeBits c).toNat]? = some c := by
  cases c <;> rfl

theorem errcBits_code (c : ErrCode) : [ErrCode.none, .busy, .undef, .rsvd][(errcBits c).toNat]? = some c := by
  cases c <;> rfl

theorem seqBits_code (q : Seq) :
    [Seq.idle, .mvRun, .mvStopOk, .mvStopFail, .hdSettle, .hdWatch, .hdNudge, .hdNudgeStop, .brkSettle][
      (seqBits q).toNat]? = some q := by
  cases q <;> rfl

/-- Settles O48: each field of the word is cut out at its place, and its code is that of its enumeration. -/
theorem statusWordHasItsFields : Obligations.StatusWordHasItsFields := by
  unfold Obligations.StatusWordHasItsFields
  rintro s w rfl
  obtain ⟨hcause, herrc, hseq, hhigh⟩ := statusWord_codes s
  obtain ⟨hbusy, hdone, hresult, hcmderr, hat, hinit, hdir, hgap⟩ := statusWord_bits s
  have hread : memRead 0x04#8 s = statusWord s := rfl
  rw [hread, hcause, herrc, hseq]
  have hidle : busy s = decide (s.seq ≠ .idle) := by rw [decide_not]; rfl
  refine ⟨hbusy.trans hidle, hdone, hresult, causeBits_code _, hcmderr, errcBits_code _, hat, hinit, hdir, hgap,
    seqBits_code _, hhigh⟩

/-- Settles O49, by evaluating the read. -/
theorem statusAfterReset : Obligations.StatusAfterReset := by
  unfold Obligations.StatusAfterReset
  decide

theorem perform_of_running (e : Input) {s : State} (hrst : s.pins.rstN = true) : perform e s = performRunning e s :=
  if_pos hrst

/-- Settles O50: every offset of the slot is that of `STATUS`, whose write looks at bit 5. -/
theorem statusWriteClearsTheError : Obligations.StatusWriteClearsTheError := by
  unfold Obligations.StatusWriteClearsTheError
  intro s off v hrst hslot
  have hreg : regAt off = some .status := regAt_congr off 0x04#8 hslot
  have hwrite : perform (.bus (.write off v)) s = .next (writeStatus v s) := by
    rw [perform_of_running _ hrst]
    simp [performRunning, busAccess, memWrite, hreg, writeReg]
  rw [hwrite]
  exact ⟨fun hbit => by rw [writeStatus, if_pos hbit], fun hbit => by rw [writeStatus, hbit]; rfl⟩

/-! ### Reset -/

/-- Pulling `rst_n` low leaves the state that reset holds (R290). -/
theorem perform_assert_reset {s : State} (hrst : s.pins.rstN = true) :
    perform (.rst false) s = .next (inReset { s with pins := { s.pins with rstN := false } }) :=
  perform_of_running _ hrst

/-- Settles O53: every element of the state that reset holds is that of `State.reset`. -/
theorem resetLeavesTheListedValues : Obligations.ResetLeavesTheListedValues := by
  unfold Obligations.ResetLeavesTheListedValues
  intro s hrst
  refine ⟨_, perform_assert_reset hrst, ?_⟩
  simp [State.reset, pwmOut, dirOut, busy, doneOut]

/-! ### The synchroniser of `fg_in` -/

/-- The detector changes the count alone (R144). -/
theorem detected_frame (s : State) :
    (detected s).pins = s.pins ∧ (detected s).seq = s.seq ∧ (detected s).script = s.script ∧
    (detected s).ctrl = s.ctrl := by
  unfold detected
  split <;> simp

/-- A quiet clock edge in `IDLE` counts a detected rise, moves the synchroniser by one flop, and leaves what the next one
looks at (R36, R144, R129). -/
theorem step_quiet_idle {s : State} (hrst : s.pins.rstN = true) (hidle : s.seq = .idle) (hscript : s.script = []) :
    ∃ t, step s = .next t ∧ t.pins = s.pins ∧ t.seq = .idle ∧ t.script = [] ∧ t.ctrl = s.ctrl ∧
      t.hidden = hiddenNext s.pins.fgIn s.cfg.pwmPeriod s.hidden ∧ t.pulse = (detected s).pulse := by
  obtain ⟨hpins, hseq, hds, hctrl⟩ := detected_frame s
  have hiterate : iterate (detected s) = update s.pins.timeUs (detected s) := by
    simp [iterate, iterateAt, hseq, hidle, hpins]
  have hagents : cycleAgents none s = .next (update s.pins.timeUs (detected s)) := by
    rw [← hiterate]; exact cycleAgents_none s
  refine ⟨_, (step_of_nil s hscript).trans ((perform_of_running _ hrst).trans (clkEdge_next none s _ hagents)),
    hpins, hseq.trans hidle, hds.trans hscript, hctrl, rfl, rfl⟩

theorem detected_of_no_rise {s : State} (h : edgeDetected s.hidden = false) : detected s = s := by simp [detected, h]

/-- An edge event below saturation adds one (R141). -/
theorem detected_pcnt_of_rise {s : State} (h : edgeDetected s.hidden = true) (hen : s.ctrl.fgEn = true)
    (hsat : s.pulse.pcnt.toNat < 4294967295) : (detected s).pulse.pcnt.toNat = s.pulse.pcnt.toNat + 1 := by
  have hinc := satInc_value s.pulse.pcnt
  simp only [Config.counterMax] at hinc
  simp only [detected, h, if_true, increment_pulse, hen]
  omega

/-- Settles O58: the rise takes two clock edges through the synchroniser, the detector delivers it at the third, and at the
fourth the previous level has caught up. -/
theorem riseIsCountedAtTheThirdClock : Obligations.RiseIsCountedAtTheThirdClock := by
  unfold Obligations.RiseIsCountedAtTheThirdClock
  intro s hrst hidle hen hscript hfg hs1 hs2 _ hsat
  obtain ⟨a, ha, hapins, haseq, hascript, hactrl, hahid, hapulse⟩ := step_quiet_idle hrst hidle hscript
  obtain ⟨b, hb, hbpins, hbseq, hbscript, hbctrl, hbhid, hbpulse⟩ := step_quiet_idle (hapins ▸ hrst) haseq hascript
  obtain ⟨c, hc, hcpins, hcseq, hcscript, hcctrl, hchid, hcpulse⟩ :=
    step_quiet_idle (hbpins ▸ hapins ▸ hrst) hbseq hbscript
  obtain ⟨d, hd, -, -, -, -, -, hdpulse⟩ := step_quiet_idle (hcpins ▸ hbpins ▸ hapins ▸ hrst) hcseq hcscript
  have hquiet₀ : edgeDetected s.hidden = false := by simp [edgeDetected, hs2]
  have hquiet₁ : edgeDetected a.hidden = false := by simp [edgeDetected, hahid, hiddenNext, hs1]
  have hrise : edgeDetected b.hidden = true := by simp [edgeDetected, hbhid, hahid, hiddenNext, hs1, hfg]
  have hquiet₃ : edgeDetected c.hidden = false := by simp [edgeDetected, hchid, hbhid, hahid, hiddenNext, hapins, hfg]
  rw [detected_of_no_rise hquiet₀] at hapulse
  rw [detected_of_no_rise hquiet₁, hapulse] at hbpulse
  rw [detected_of_no_rise hquiet₃] at hdpulse
  have hcount := detected_pcnt_of_rise hrise (by rw [hbctrl, hactrl, hen]) (by rwa [hbpulse])
  rw [← hcpulse, hbpulse] at hcount
  exact ⟨a, b, c, d, ha, hb, hc, hd, by rw [hapulse], by rw [hbpulse], hcount, by rw [hdpulse]⟩

/-! ### The waveform counter -/

theorem pwmNext_toNat {c p : Half} (h : c.toNat + 1 < p.toNat) : (pwmNext c p).toNat = c.toNat + 1 := by
  simp only [pwmNext, if_pos h, BitVec.toNat_ofNat]
  omega

/-- From 0 the counter counts up to the last value of its period. -/
theorem pwmNext_iterate_toNat (p : Half) (k : Nat) (hk : k < p.toNat) : ((fun c => pwmNext c p)^[k] 0).toNat = k := by
  induction k with
  | zero => rfl
  | succ k ih =>
    have hprev := ih (by omega)
    rw [Function.iterate_succ_apply', pwmNext_toNat (by omega), hprev]

/-- After a whole period the counter is back at 0. -/
theorem pwmNext_iterate_period {p : Half} (hp : 0 < p.toNat) : (fun c => pwmNext c p)^[p.toNat] 0 = 0 := by
  obtain ⟨n, hn⟩ : ∃ n, p.toNat = n + 1 := ⟨p.toNat - 1, by omega⟩
  have hlast := pwmNext_iterate_toNat p n (by omega)
  rw [hn, Function.iterate_succ_apply']
  exact if_neg (by omega)

/-- Of the numbers below `n`, those below `d` are `d` many when `d` is at most `n`. -/
theorem length_filter_lt_range {d n : Nat} (h : d ≤ n) : ((List.range n).filter (fun k => decide (k < d))).length = d := by
  induction n, h using Nat.le_induction with
  | base => rw [List.filter_eq_self.2 (by simp), List.length_range]
  | succ n hn ih => simp [List.range_succ, ih, hn]

/-- Settles O59: the counter's `k`-th value is `k`, so the output is high at exactly the counts below the duty. -/
theorem waveformIsHighForDuty : Obligations.WaveformIsHighForDuty := by
  unfold Obligations.WaveformIsHighForDuty
  intro s p hp hduty
  refine ⟨pwmNext_iterate_period hp, fun k hk => pwmNext_iterate_toNat p k hk, ?_⟩
  calc _ = ((List.range p.toNat).filter (fun k => decide (k < s.slew.duty.toNat))).length := by
        refine congrArg List.length (List.filter_congr fun k hk => ?_)
        simp only [pwmOut, pwmNext_iterate_toNat p k (List.mem_range.1 hk)]
    _ = s.slew.duty.toNat := length_filter_lt_range hduty

end Sys2Proof.Proofs
end

section
/-! PROOFS. The register space (spec/20_memory.md R62 to R67), what a host access leaves alone (R74, R273), and the order of
the agents in a clock cycle (R70). -/

open Sys2Proof.Machine Sys2Proof.Statements

namespace Sys2Proof.Proofs

/-! ### The address map (R66) -/

/-- The slot of a register in the address map, as `regAt` places it (`slotOf_of_regAt`). -/
def slotOfReg : BusReg → Nat
  | .cmd => 0x00 | .status => 0x01 | .ctrl => 0x02 | .pcnt => 0x03 | .pcap => 0x04 | .slCurrent => 0x05
  | .slTarget => 0x06 | .slRate => 0x07 | .duty => 0x08 | .pwmPeriod => 0x09 | .ppm => 0x0A | .rateRun => 0x0B
  | .rateBrake => 0x0C | .cmdTol => 0x0D | .atEps => 0x0E | .windCruise => 0x0F | .unwindCruise => 0x10
  | .mvDist => 0x11 | .mvCruise => 0x12 | .mvTimeout => 0x13 | .mvPadDist => 0x14 | .mvPadSpeed => 0x15
  | .mvStallWin => 0x16 | .hdDuration => 0x17 | .hdNudgeSpeed => 0x18 | .hdDeadband => 0x19 | .hdQuota => 0x1A
  | .hdMinGap => 0x1B | .slArgSpeed => 0x1C | .slArgRate => 0x1D
  | .stallThr0 => 0x20 | .stallThr1 => 0x21 | .stallThr2 => 0x22 | .stallThr3 => 0x23
  | .stallMin0 => 0x24 | .stallMin1 => 0x25 | .stallMin2 => 0x26 | .stallMin3 => 0x27
  | .pTarget => 0x28 | .pPadn => 0x29 | .nudgeCnt => 0x2A

theorem slotOf_of_regAt {off : Offset} {r : BusReg} (h : regAt off = some r) : slotOf off = slotOfReg r := by
  unfold regAt at h
  split at h <;> cases h <;> assumption

/-- The reserved offsets (R67). -/
theorem regAt_eq_none_iff (off : Offset) :
    regAt off = none ↔ slotOf off = 0x1E ∨ slotOf off = 0x1F ∨ 0x2B ≤ slotOf off := by
  constructor
  · intro hnone
    by_contra hslot
    have hlt : slotOf off < 0x2B := by omega
    interval_cases h : slotOf off <;> simp_all [regAt]
  · intro hslot
    refine Option.eq_none_iff_forall_ne_some.2 fun r hr => ?_
    rw [slotOf_of_regAt hr] at hslot
    cases r <;> simp [slotOfReg] at hslot

/-- Clearing the two low bits of an offset keeps its slot (R62). -/
theorem slotOf_and_mask (off : Offset) : slotOf (off &&& 0xFC#8) = slotOf off := by
  have hlt := off.isLt
  have hmask : (off &&& 0xFC#8).toNat / 2 ^ 2 = off.toNat / 2 ^ 2 % 2 ^ 6 := by
    rw [BitVec.toNat_and, Nat.and_div_two_pow]
    exact Nat.and_two_pow_sub_one_eq_mod _ 6
  unfold slotOf
  omega

theorem memRead_and_mask (off : Offset) (s : State) : memRead (off &&& 0xFC#8) s = memRead off s := by
  simp only [memRead, regAt_congr _ _ (slotOf_and_mask off)]

theorem memRead_of_regAt {off : Offset} {r : BusReg} (h : regAt off = some r) (s : State) : memRead off s = readReg r s := by
  simp only [memRead, h]

theorem memRead_of_reserved {off : Offset} (h : regAt off = none) (s : State) : memRead off s = 0 := by
  simp only [memRead, h]

/-! ### The Host agent's step (R63, R64) -/

theorem perform_bus {s : State} (hrst : s.pins.rstN = true) (r : BusReq) : perform (.bus r) s = busAccess r s :=
  perform_of_running _ hrst

theorem memWrite_of_reserved {off : Offset} (h : regAt off = none) (v : Word) (s : State) : memWrite off v s = .next s := by
  simp only [memWrite, h]

theorem memWrite_of_regAt {off : Offset} {r : BusReg} (h : regAt off = some r) (hcmd : r ≠ .cmd) (v : Word) (s : State) :
    memWrite off v s = .next (writeReg r v s) := by
  simp [memWrite, h]

/-- A legal word written anywhere in the slot of `CMD` is executed by the write (R76, R121). -/
theorem memWrite_command {off : Offset} {w : Word} {i : Instr} (hslot : slotOf off = 0) (hw : decode w = .command i)
    (s : State) : memWrite off w s = exec i s := by
  have hreg : regAt off = some .cmd := regAt_congr off 0x00#8 hslot
  simp only [memWrite, hreg, issue, hw]

/-- Settles O46: the read is that of the slot, which the mask keeps. -/
theorem readChangesNothing : Obligations.ReadChangesNothing := by
  unfold Obligations.ReadChangesNothing
  intro s off hrst
  rw [perform_bus hrst, memRead_and_mask]
  rfl

/-! ### What each register reads and stores -/

/-- The word of `CTRL` as a number (R27). -/
theorem ctrlWord_eq (c : Ctrl) : ctrlWord c = BitVec.ofNat 32 (2 * c.windDir.toNat + c.fgEn.toNat) := by
  obtain ⟨fgEn, windDir⟩ := c
  cases fgEn <;> cases windDir <;> rfl

/-- Settles O47: the low bits are cleared, and then each listed offset is read by the map; the words that are not stored as
they are read are `CTRL` and the two of 16 bits. -/
theorem everyOffsetReadsItsElement : Obligations.EveryOffsetReadsItsElement := by
  unfold Obligations.EveryOffsetReadsItsElement
  intro s off p hp haddr
  rw [← memRead_and_mask, haddr]
  clear haddr
  revert p
  simp only [List.forall_mem_cons, List.not_mem_nil, false_imp_iff, implies_true, and_true, BitVec.ofNat_toNat,
    ← ctrlWord_eq]
  repeat' apply And.intro
  all_goals rfl

/-- Two bits of a word, as `CTRL` keeps them (R27). -/
theorem ctrlWord_of_bits (v : Word) : ctrlWord { fgEn := v.getLsbD 0, windDir := v.getLsbD 1 } = v &&& 3#32 := by
  have hbit (i : Nat) : (v.getLsbD i).toNat = v.toNat / 2 ^ i % 2 := Nat.toNat_testBit _ _
  have hmask : v.toNat &&& 3 = v.toNat % 2 ^ 2 := Nat.and_two_pow_sub_one_eq_mod _ 2
  refine BitVec.eq_of_toNat_eq ?_
  rw [ctrlWord_eq, BitVec.toNat_and, hbit, hbit, BitVec.toNat_ofNat]
  simp only [BitVec.toNat_ofNat, Nat.reducePow, Nat.reduceMod, hmask]
  omega

/-- Sixteen bits of a word, as `PWM_PERIOD` keeps them (R28). -/
theorem setWidth_half (v : Word) : (v.setWidth 16).setWidth 32 = v &&& 0xFFFF#32 := by
  have hmask : v.toNat &&& 0xFFFF = v.toNat % 2 ^ 16 := Nat.and_two_pow_sub_one_eq_mod _ 16
  refine BitVec.eq_of_toNat_eq ?_
  simp only [BitVec.toNat_setWidth, BitVec.toNat_and, BitVec.toNat_ofNat, Nat.reducePow, Nat.reduceMod, hmask]
  omega

/-- A write reads back within the bits of its register: two for `CTRL`, sixteen for `PWM_PERIOD`, else all (R64). -/
theorem readReg_writeReg_value {r : BusReg} (v : Word) (s : State)
    (h : slotOfReg r = 2 ∨ (9 ≤ slotOfReg r ∧ slotOfReg r ≤ 0x1D) ∨ (0x20 ≤ slotOfReg r ∧ slotOfReg r ≤ 0x27)) :
    readReg r (writeReg r v s) =
      if slotOfReg r = 2 then v &&& 3#32 else if slotOfReg r = 9 then v &&& 0xFFFF#32 else v := by
  by_cases hctrl : r = .ctrl
  · subst hctrl
    exact ctrlWord_of_bits v
  by_cases hperiod : r = .pwmPeriod
  · subst hperiod
    exact setWidth_half v
  have hwhole : storesWhole r = true := by cases r <;> simp_all [slotOfReg, storesWhole]
  rw [readReg_writeReg_same r v s hwhole, if_neg, if_neg]
  all_goals cases r <;> simp_all [slotOfReg]

/-- A plain write of a register other than `STATUS` stores into `CTRL`, the configuration, the operands or the bands. -/
theorem writeReg_eq {r : BusReg} (hstatus : r ≠ .status) (v : Word) (s : State) :
    writeReg r v s = { s with
      ctrl := (writeReg r v s).ctrl
      cfg := (writeReg r v s).cfg
      opd := (writeReg r v s).opd
      stall := (writeReg r v s).stall } := by
  cases r with
  | status => exact absurd rfl hstatus
  | _ => rfl

/-- The read-only registers ignore a write (R67). -/
theorem writeReg_of_readOnly {r : BusReg} (h : (3 ≤ slotOfReg r ∧ slotOfReg r ≤ 8) ∨ 0x28 ≤ slotOfReg r) (v : Word)
    (s : State) : writeReg r v s = s := by
  cases r <;> simp [slotOfReg] at h <;> rfl

/-- Settles O51: the offset is that of a register with all of its bits or some of them stored, and a register at another slot
is another register. -/
theorem writableRegistersReadBack : Obligations.WritableRegistersReadBack := by
  unfold Obligations.WritableRegistersReadBack
  intro s off v hrst hslot
  obtain ⟨r, hr⟩ : ∃ r, regAt off = some r := by
    refine Option.ne_none_iff_exists'.1 fun hnone => ?_
    have hreserved := (regAt_eq_none_iff off).1 hnone
    unfold slotOf at hreserved
    omega
  have hoff : off.toNat / 4 = slotOfReg r := slotOf_of_regAt hr
  rw [hoff] at hslot ⊢
  have hcmd : r ≠ .cmd := by rintro rfl; simp [slotOfReg] at hslot
  have hstatus : r ≠ .status := by rintro rfl; simp [slotOfReg] at hslot
  refine ⟨writeReg r v s, (perform_bus hrst _).trans (memWrite_of_regAt hr hcmd v s), ?_, fun a ha hnstatus => ?_,
    writeReg_eq hstatus v s⟩
  · rw [memRead_of_regAt hr, readReg_writeReg_value v s hslot]
  · cases hq : regAt a with
    | none => rw [memRead_of_reserved hq, memRead_of_reserved hq]
    | some q =>
      have haq : a.toNat / 4 = slotOfReg q := slotOf_of_regAt hq
      rw [memRead_of_regAt hq, memRead_of_regAt hq]
      exact readReg_writeReg_other r q v s (by rintro rfl; exact ha haq) (by rintro rfl; exact hnstatus haq)

/-- Settles O52: a reserved offset has no register, and a read-only register stores nothing. -/
theorem reservedAndReadOnlyIgnoreWrites : Obligations.ReservedAndReadOnlyIgnoreWrites := by
  unfold Obligations.ReservedAndReadOnlyIgnoreWrites
  intro s off v hrst
  have hwrite : perform (.bus (.write off v)) s = memWrite off v s := perform_bus hrst _
  rw [hwrite]
  refine ⟨fun hreserved => ?_, fun hreadOnly => ?_⟩
  · have hnone := (regAt_eq_none_iff off).2 hreserved
    exact ⟨memRead_of_reserved hnone s, memWrite_of_reserved hnone v s⟩
  · cases hr : regAt off with
    | none => exact memWrite_of_reserved hr v s
    | some r =>
      have hoff : off.toNat / 4 = slotOfReg r := slotOf_of_regAt hr
      rw [hoff] at hreadOnly
      have hcmd : r ≠ .cmd := by rintro rfl; simp [slotOfReg] at hreadOnly
      rw [memWrite_of_regAt hr hcmd, writeReg_of_readOnly (by omega)]

/-! ### What a host access leaves alone (R74, R273) -/

/-- What no host access changes: the input pins and what the iteration alone writes in the limiter; outside `IDLE` the
direction too. -/
structure AccessFrame (s t : State) : Prop where
  pins : t.pins = s.pins
  slCurrent : t.slew.slCurrent = s.slew.slCurrent
  duty : t.slew.duty = s.slew.duty
  slLast : t.slew.slLast = s.slew.slLast
  slInit : t.slew.slInit = s.slew.slInit
  dir : s.seq ≠ .idle → t.dir = s.dir

/-- An access that leaves the pins, the limiter and the direction as they were. -/
theorem AccessFrame.of_same {s t : State} (hpins : t.pins = s.pins) (hslew : t.slew = s.slew) (hdir : t.dir = s.dir) :
    AccessFrame s t :=
  ⟨hpins, by rw [hslew], by rw [hslew], by rw [hslew], by rw [hslew], fun _ => hdir⟩

/-- A command accepted in `IDLE` commands the limiter a speed and a rate at most. -/
theorem actionOf_accessFrame (i : Instr) {s : State} (hidle : s.seq = .idle) :
    AccessFrame s (actionOf i (prologue s)) := by
  have hmove (d : Bool) (v : Word) (now : Stamp) : AccessFrame s (startMove d v now (prologue s)) := by
    rcases startMove_cases d v now (prologue s) with ⟨-, e⟩ | ⟨-, e⟩ <;> rw [e]
    · exact .of_same rfl rfl rfl
    · exact ⟨rfl, rfl, rfl, rfl, rfl, fun h => absurd hidle h⟩
  cases i with
  | nop => exact .of_same rfl rfl rfl
  | move d => exact hmove _ _ _
  | wind => exact hmove _ _ _
  | unwind => exact hmove _ _ _
  | hold d => exact ⟨rfl, rfl, rfl, rfl, rfl, fun _ => rfl⟩
  | brake => exact ⟨rfl, rfl, rfl, rfl, rfl, fun _ => rfl⟩
  | settgt => exact ⟨rfl, rfl, rfl, rfl, rfl, fun _ => rfl⟩
  | setdir d => exact ⟨rfl, rfl, rfl, rfl, rfl, fun h => absurd hidle h⟩
  | rdrst => exact .of_same rfl rfl rfl

theorem memWrite_accessFrame {off : Offset} {v : Word} {s t : State} (ht : memWrite off v s = .next t) :
    AccessFrame s t := by
  rcases memWrite_cases off v s with ⟨i, -, hidle, e⟩ | ⟨c, -, e⟩ | ⟨r, -, e⟩ | e <;>
    obtain rfl := Host.Outcome.next.inj (e.symm.trans ht)
  · exact actionOf_accessFrame i hidle
  · exact .of_same rfl rfl rfl
  · obtain ⟨-, hdir, -, hslew, -, -, -, -, -, hpins, -⟩ := writeReg_frame r v s
    exact .of_same hpins hslew hdir
  · exact .of_same rfl rfl rfl

theorem busAccess_accessFrame {r : BusReq} {s t : State} (ht : busAccess r s = .next t) : AccessFrame s t := by
  rcases busAccess_cases r s with ⟨d, n, e⟩ | ⟨off, v, d, n, e⟩
  · obtain rfl := Host.Outcome.next.inj (e.symm.trans ht)
    exact .of_same rfl rfl rfl
  · obtain ⟨hpins, hcur, hduty, hlast, hinit, hdir⟩ := memWrite_accessFrame (e.symm.trans ht)
    exact ⟨hpins, hcur, hduty, hlast, hinit, hdir⟩

/-- An edge event changes the count alone (R141, R142). -/
theorem increment_eq (s : State) : ∃ n, increment s = { s with pulse := { s.pulse with pcnt := n } } := by
  unfold increment
  split
  · exact ⟨_, rfl⟩
  · exact ⟨s.pulse.pcnt, rfl⟩

/-- Settles O45, from what an edge event changes and what every host access leaves alone. -/
theorem outputsHaveOneWriter : Obligations.OutputsHaveOneWriter := by
  unfold Obligations.OutputsHaveOneWriter
  intro s hrst
  refine ⟨?_, fun r => ?_⟩
  · obtain ⟨n, e⟩ := increment_eq s
    exact ⟨n, (perform_of_running _ hrst).trans (congrArg _ e)⟩
  · obtain ⟨t, ht⟩ := busAccess_next r s
    obtain ⟨-, hcur, hduty, hlast, hinit, hdir⟩ := busAccess_accessFrame ht
    exact ⟨t, (perform_bus hrst r).trans ht, hcur, hduty, hlast, hinit, busAccess_countKept ht, hdir⟩

/-! ### The order of the agents in a clock cycle (R70) -/

theorem timeoutCheck_pins (now : Stamp) (s : State) : (timeoutCheck now s).pins = s.pins := by
  rcases timeoutCheck_cases now s with ⟨-, e⟩ | ⟨-, e⟩ <;> simp [e]

theorem stallCheck_pins (now : Stamp) (c : Word) (s : State) : (stallCheck now c s).pins = s.pins := by
  rcases stallCheck_cases now c s with ⟨-, -, e⟩ | ⟨-, -, e⟩ | ⟨-, e⟩ <;> simp [e, timeoutCheck_pins]

theorem moveIter_pins (now : Stamp) (s : State) : (moveIter now s).pins = s.pins := by
  have hprofiled : (profiled now s).pins = s.pins := by
    obtain ⟨r, -, e⟩ := profiled_eq now s
    simp [e]
  rcases moveIter_cases now s with ⟨-, e⟩ | ⟨-, e⟩ <;> rw [e]
  · rfl
  · rw [stallCheck_pins, hprofiled]

theorem settle_pins (now : Stamp) (exit : State → State) (s : State) (hexit : ∀ t, (exit t).pins = t.pins) :
    (settle now exit s).pins = s.pins := by
  rcases settle_cases now exit s with ⟨-, e⟩ | ⟨-, e⟩ <;> simp [e, hexit]

/-- The Control agent does not touch the environment's pins (R20). -/
theorem iterate_pins (s : State) : (iterate s).pins = s.pins := by
  unfold iterate iterateAt
  generalize s.pins.timeUs = now
  cases s.seq with
  | idle => rfl
  | mvRun => exact moveIter_pins now s
  | mvStopOk => exact settle_pins now _ s fun _ => rfl
  | mvStopFail => exact settle_pins now _ s fun _ => rfl
  | hdSettle => exact settle_pins now _ s fun _ => rfl
  | hdWatch =>
    rcases watchIter_cases now s with ⟨-, e⟩ | ⟨-, -, -, e⟩ | ⟨-, -, e⟩ <;> exact (congrArg State.pins e).trans rfl
  | hdNudge =>
    rcases nudgeIter_cases now s with ⟨-, e⟩ | ⟨-, e⟩ <;> exact (congrArg State.pins e).trans rfl
  | hdNudgeStop => exact settle_pins now _ s fun _ => rfl
  | brkSettle => exact settle_pins now _ s fun _ => rfl

theorem edgeDetected_iff (h : Hidden) : edgeDetected h = true ↔ h.fgS2 = true ∧ h.fgPrev = false := by
  simp [edgeDetected]

/-- The waveform counter in words of its own width (R36). -/
theorem pwmNext_eq (c p : Half) : pwmNext c p = if c.toNat + 1 < p.toNat then c + 1 else 0 := by
  simp [pwmNext, BitVec.ofNat_add]

/-- The Edge agent's step of a clock cycle: an edge event exactly when the detector holds a rise (R36, R144). -/
theorem detected_step {s : State} (hrst : s.pins.rstN = true) :
    if s.hidden.fgS2 = true ∧ s.hidden.fgPrev = false then perform .edge s = .next (detected s) else detected s = s := by
  unfold detected
  simp only [edgeDetected_iff]
  split
  · exact perform_of_running _ hrst
  · rfl

/-- Settles O55: the detector's state, the host's access on it, the iteration on that, and the hidden flops from before. -/
theorem clockCycleOrdersTheAgents : Obligations.ClockCycleOrdersTheAgents := by
  unfold Obligations.ClockCycleOrdersTheAgents
  intro s r hrst
  obtain ⟨hpins, -⟩ := detected_frame s
  obtain ⟨b, hsome, hnone, hbpins, hagents⟩ : ∃ b, (∀ q, r = some q → busAccess q (detected s) = .next b) ∧
      (r = none → b = detected s) ∧ b.pins = s.pins ∧ cycleAgents r s = .next (iterate b) := by
    cases r with
    | none => exact ⟨detected s, by simp, fun _ => rfl, hpins, cycleAgents_none s⟩
    | some q =>
      obtain ⟨u, hu⟩ := busAccess_next q (detected s)
      exact ⟨u, by rintro _ ⟨⟩; exact hu, by simp, (busAccess_accessFrame hu).pins.trans hpins,
        cycleAgents_some q s u hu⟩
  exact ⟨detected s, b, iterate b, detected_step hrst,
    fun q hq => (perform_bus (by rw [hpins, hrst]) q).trans (hsome q hq), hnone,
    perform_of_running _ (by rw [hbpins, hrst]), (iterate_pins b).trans hbpins,
    (perform_of_running _ hrst).trans (clkEdge_next r s _ hagents), pwmNext_eq _ _⟩

/-! ### Commands written to `CMD` -/

theorem decode_encode (i : Instr) : decode (encode i) = .command i := by
  cases i with
  | nop => exact Laws.DecodeEncode.nop
  | move d => exact Laws.DecodeEncode.move d
  | wind => exact Laws.DecodeEncode.wind
  | unwind => exact Laws.DecodeEncode.unwind
  | hold d => exact Laws.DecodeEncode.hold d
  | brake => exact Laws.DecodeEncode.brake
  | settgt => exact Laws.DecodeEncode.settgt
  | setdir d => exact Laws.DecodeEncode.setdir d
  | rdrst => exact Laws.DecodeEncode.rdrst

/-- A step whose next input is a host write of a legal word to `CMD` is the execution of that word (R76, R121). -/
theorem step_of_command {s : State} {off : Offset} {w : Word} {i : Instr} {rest : List Input}
    (hscript : s.script = .bus (.write off w) :: rest) (hrst : s.pins.rstN = true) (hslot : slotOf off = 0)
    (hw : decode w = .command i) : step s = exec i { s with script := rest } := by
  rw [step_of_cons s _ rest hscript]
  exact (perform_bus (s := { s with script := rest }) hrst _).trans (memWrite_command hslot hw _)

/-- The word of a command, placed as a table word of 32 bits, is itself. -/
theorem tableWord_toNat (w : Word) : tableWord 32 w.toNat = w := by
  rw [tableWord, Nat.mod_eq_of_lt w.isLt, BitVec.ofNat_toNat, BitVec.setWidth_eq]

/-- Settles O4: the write to `CMD` is executed, and a placed word is such a write. -/
theorem stepRunsTheWrittenCommand : Obligations.StepRunsTheWrittenCommand := by
  unfold Obligations.StepRunsTheWrittenCommand
  refine ⟨fun s off w i rest hscript hrst hslot hw => step_of_command hscript hrst hslot hw, fun s i => ?_⟩
  have hword : decode (tableWord 32 (encode i).toNat) = .command i := by rw [tableWord_toNat, decode_encode]
  exact step_of_command (rest := s.script) rfl rfl rfl hword

/-- RDRST in `IDLE`: the count is captured and cleared, and success is reported from `IDLE` (R145, R146). -/
theorem exec_rdrst_idle {s : State} (hidle : s.seq = .idle) :
    ∃ t, exec .rdrst s = .next t ∧ t.seq = .idle ∧ t.pulse = { pcnt := 0, pcap := s.pulse.pcnt } ∧
      t.flags.done = true ∧ t.flags.result = true :=
  ⟨_, exec_idle .rdrst s hidle, rfl, rfl, rfl, rfl⟩

/-- Settles O13: the second capture is of the count the first one cleared. -/
theorem secondCaptureYieldsZero : Obligations.SecondCaptureYieldsZero := by
  unfold Obligations.SecondCaptureYieldsZero
  intro s hidle
  obtain ⟨t, ht, htidle, htpulse, -⟩ := exec_rdrst_idle hidle
  obtain ⟨u, hu, -, hupulse, -⟩ := exec_rdrst_idle htidle
  exact ⟨t, u, ht, hu, by rw [htpulse], by rw [hupulse, htpulse], by rw [hupulse]⟩

theorem iterate_idle {s : State} (hidle : s.seq = .idle) : iterate s = update s.pins.timeUs s := by
  simp [iterate, iterateAt, hidle]

/-- Settles O57: the edge is counted before the capture, and the iteration after it leaves the count and the result alone. -/
theorem edgeDuringCaptureIsCaptured : Obligations.EdgeDuringCaptureIsCaptured := by
  unfold Obligations.EdgeDuringCaptureIsCaptured
  intro s hrst hidle hen hs2 hprev hsat
  obtain ⟨-, hseq, -⟩ := detected_frame s
  obtain ⟨u, hu, huidle, hupulse, hdone, hresult⟩ := exec_rdrst_idle (hseq.trans hidle)
  have hbus : busAccess (.write 0x00#8 0x00000008#32) (detected s) = .next u :=
    (memWrite_command (off := 0x00#8) rfl (decode_encode .rdrst) _).trans hu
  have hagents := cycleAgents_some _ s u hbus
  rw [iterate_idle huidle] at hagents
  refine ⟨_, (perform_of_running _ hrst).trans (clkEdge_next _ s _ hagents), ?_, ?_, hdone, hresult⟩
  · have hcount := detected_pcnt_of_rise ((edgeDetected_iff _).2 ⟨hs2, hprev⟩) hen hsat
    simp [hupulse, hcount]
  · simp [hupulse]

end Sys2Proof.Proofs
end

section
/-! PROOFS. The decoder and the encoder of spec/30_encoding.md as functions of the three fields of a command word (R90, R96),
and the two refusals of a written word (R98, R99). -/

open Sys2Proof.Machine Sys2Proof.Statements

namespace Sys2Proof.Proofs

/-! ### The fields of a command word (R90) -/

theorem fieldHigh_eq_zero_iff (w : Word) : fieldHigh w = 0 ↔ w.toNat / 512 = 0 := by
  have hlt := w.isLt
  have hvalue : (fieldHigh w).toNat = w.toNat / 512 := by
    simp only [fieldHigh, BitVec.extractLsb'_toNat, Nat.shiftRight_eq_div_pow]
    omega
  rw [← BitVec.toNat_inj, hvalue]
  rfl

theorem fieldD_eq_true_iff (w : Word) : fieldD w = true ↔ w.toNat / 256 % 2 = 1 := by
  simp [fieldD, BitVec.getLsbD, Nat.testBit_eq_decide_div_mod_eq]

theorem fieldOp_toNat (w : Word) : (fieldOp w).toNat = w.toNat % 256 := by
  simp [fieldOp]

/-- The three fields make up the whole word. -/
theorem fields_append (w : Word) : fieldHigh w ++ BitVec.ofBool (fieldD w) ++ fieldOp w = w := by
  have hbit : BitVec.ofBool (fieldD w) = w.extractLsb' 8 1 := by
    ext i hi
    obtain rfl : i = 0 := by omega
    simp [fieldD]
  calc fieldHigh w ++ BitVec.ofBool (fieldD w) ++ fieldOp w
      = w.extractLsb' 9 23 ++ w.extractLsb' 8 1 ++ w.extractLsb' 0 8 := by rw [hbit]; rfl
    _ = w.extractLsb' 8 24 ++ w.extractLsb' 0 8 :=
      congrArg (· ++ w.extractLsb' 0 8) (BitVec.extractLsb'_append_extractLsb'_eq_extractLsb' rfl)
    _ = w.extractLsb' 0 32 := BitVec.extractLsb'_append_extractLsb'_eq_extractLsb' rfl
    _ = w := BitVec.extractLsb'_eq_self

/-! ### The rows of R94 -/

theorem formatD_iff (op : BitVec 8) : formatD op = true ↔ op.toNat ∈ [1, 4, 7] := by
  simp [formatD, ← BitVec.toNat_inj, or_assoc]

/-- The undefined opcodes are those above 8. -/
theorem commandOf_eq_none_iff (op : BitVec 8) (d : Bool) : commandOf op d = none ↔ 8 < op.toNat := by
  unfold commandOf
  split <;> simp_all
  -- what is left is the last row, of an opcode that is none of 0 to 8
  omega

theorem exists_commandOf {op : BitVec 8} (hop : op.toNat ≤ 8) (d : Bool) : ∃ i, commandOf op d = some i :=
  Option.ne_none_iff_exists'.1 fun hnone => absurd ((commandOf_eq_none_iff op d).1 hnone) (by omega)

/-- The command of an opcode has that opcode, and takes the direction bit in format D alone. -/
theorem fields_of_commandOf {op : BitVec 8} {d : Bool} {i : Instr} (h : commandOf op d = some i) :
    opcodeOf i = op ∧ directionOf i = (d && formatD op) := by
  have hword : op = BitVec.ofNat 8 op.toNat := by simp
  unfold commandOf at h
  split at h <;> cases h
  all_goals
    rename_i hop
    rw [hop] at hword
    subst hword
    simp [opcodeOf, directionOf, formatD]

/-! ### The checks of R96 -/

theorem decode_of_high {w : Word} (hhigh : fieldHigh w ≠ 0) : decode w = .refused .rsvd := if_pos hhigh

theorem decode_of_undefined {w : Word} (hhigh : fieldHigh w = 0) (hop : 8 < (fieldOp w).toNat) :
    decode w = .refused .undef := by
  simp [decode, hhigh, (commandOf_eq_none_iff _ (fieldD w)).2 hop]

/-- A word with a defined opcode is left to the check of its bit 8. -/
theorem decode_of_defined {w : Word} {i : Instr} (hhigh : fieldHigh w = 0)
    (hcmd : commandOf (fieldOp w) (fieldD w) = some i) :
    decode w = if fieldD w && !formatD (fieldOp w) then .refused .rsvd else .command i := by
  simp [decode, hhigh, hcmd]

theorem decode_of_reservedDirection {w : Word} (hhigh : fieldHigh w = 0) (hop : (fieldOp w).toNat ≤ 8)
    (hbit : fieldD w = true) (hformat : formatD (fieldOp w) = false) : decode w = .refused .rsvd := by
  obtain ⟨i, hcmd⟩ := exists_commandOf hop (fieldD w)
  simp [decode_of_defined hhigh hcmd, hbit, hformat]

/-- A word that passes the three checks decodes to the command of its opcode and its direction bit. -/
theorem decode_of_legal {w : Word} (hhigh : fieldHigh w = 0) (hop : (fieldOp w).toNat ≤ 8)
    (hallowed : fieldD w = true → formatD (fieldOp w) = true) :
    ∃ i, decode w = .command i ∧ opcodeOf i = fieldOp w ∧ directionOf i = fieldD w := by
  obtain ⟨i, hcmd⟩ := exists_commandOf hop (fieldD w)
  obtain ⟨hopcode, hdir⟩ := fields_of_commandOf hcmd
  refine ⟨i, ?_, hopcode, ?_⟩
  · rw [decode_of_defined hhigh hcmd, if_neg (by simpa using hallowed)]
  · rw [hdir, Bool.and_eq_left_iff_imp.2 hallowed]

/-- Every way the decoding of a word can end: refused by one of the two codes, or the command whose fields the word has. -/
theorem decode_cases (w : Word) :
    decode w = .refused .rsvd ∨ decode w = .refused .undef ∨
    (fieldHigh w = 0 ∧ ∃ i, decode w = .command i ∧ opcodeOf i = fieldOp w ∧ directionOf i = fieldD w) := by
  by_cases hhigh : fieldHigh w = 0
  case neg => exact .inl (decode_of_high hhigh)
  by_cases hop : (fieldOp w).toNat ≤ 8
  case neg => exact .inr (.inl (decode_of_undefined hhigh (by omega)))
  by_cases hallowed : fieldD w = true → formatD (fieldOp w) = true
  · exact .inr (.inr ⟨hhigh, decode_of_legal hhigh hop hallowed⟩)
  · obtain ⟨hbit, hformat⟩ := Classical.not_imp.1 hallowed
    exact .inl (decode_of_reservedDirection hhigh hop hbit (by simpa using hformat))

/-- A word that decodes to a command has the fields of that command's word. -/
theorem fields_of_decode {w : Word} {i : Instr} (h : decode w = .command i) :
    fieldHigh w = 0 ∧ opcodeOf i = fieldOp w ∧ directionOf i = fieldD w := by
  rcases decode_cases w with e | e | ⟨hhigh, j, e, hop, hdir⟩ <;> rw [e] at h <;> cases h
  exact ⟨hhigh, hop, hdir⟩

/-- The only codes a word is refused with (R97). -/
theorem code_of_decode {w : Word} {c : ErrCode} (h : decode w = .refused c) : c = .undef ∨ c = .rsvd := by
  rcases decode_cases w with e | e | ⟨-, j, e, -⟩ <;> rw [e] at h <;> cases h
  · exact .inr rfl
  · exact .inl rfl

/-- Settles O2: a decoded word has the three fields that its command's word is put together from. -/
theorem decodeIffEncode : Obligations.DecodeIffEncode := by
  unfold Obligations.DecodeIffEncode
  refine fun w i => ⟨fun h => ?_, fun h => h ▸ decode_encode i⟩
  obtain ⟨hhigh, hop, hdir⟩ := fields_of_decode h
  calc w = fieldHigh w ++ BitVec.ofBool (fieldD w) ++ fieldOp w := (fields_append w).symm
    _ = encode i := by rw [hhigh, ← hop, ← hdir]; rfl

/-- Settles O1: the four outcomes of the decoder, with the fields written as numbers. -/
theorem decodingChecksInOrder : Obligations.DecodingChecksInOrder := by
  unfold Obligations.DecodingChecksInOrder
  intro w
  simp only [ne_eq, ← fieldHigh_eq_zero_iff, ← fieldOp_toNat, ← formatD_iff, ← fieldD_eq_true_iff,
    Bool.not_eq_true]
  refine ⟨decode_of_high, decode_of_undefined, decode_of_reservedDirection, fun hhigh hop hallowed => ?_⟩
  obtain ⟨i, hdecode, hopcode, hdir⟩ := decode_of_legal hhigh hop hallowed
  exact ⟨i, hdecode, by rw [hopcode], by simp [hdir]⟩

/-- Settles O3: each listed word is the word of its command. -/
theorem listedWordsDecode : Obligations.ListedWordsDecode := by
  unfold Obligations.ListedWordsDecode
  exact ⟨decode_encode .nop, decode_encode (.move false), decode_encode (.move true), decode_encode .wind,
    decode_encode .unwind, decode_encode (.hold false), decode_encode (.hold true), decode_encode .brake,
    decode_encode .settgt, decode_encode (.setdir false), decode_encode (.setdir true), decode_encode .rdrst⟩

/-! ### The refusal of a written word (R98, R99) -/

/-- An illegal word written anywhere in the slot of `CMD` is refused with its own code (R121). -/
theorem memWrite_refused {off : Offset} {w : Word} {c : ErrCode} (hslot : slotOf off = 0) (hw : decode w = .refused c)
    (s : State) : memWrite off w s = .next (refuse c s) := by
  have hreg : regAt off = some .cmd := regAt_congr off 0x00#8 hslot
  simp only [memWrite, hreg, issue, hw]

/-- Settles O5: the written word is executed, and every command is refused outside `IDLE`. -/
theorem legalWordWhileRunningIsBusy : Obligations.LegalWordWhileRunningIsBusy := by
  unfold Obligations.LegalWordWhileRunningIsBusy
  intro s off w i hrst hbusy hslot hw
  calc perform (.bus (.write off w)) s = memWrite off w s := perform_bus hrst _
    _ = exec i s := memWrite_command hslot hw s
    _ = .next (refuse .busy s) := exec_busy i s hbusy

/-- Settles O6: decoding comes before the state of the sequencer is looked at. -/
theorem illegalWordRecordsItsCode : Obligations.IllegalWordRecordsItsCode := by
  unfold Obligations.IllegalWordRecordsItsCode
  exact fun s off w c hrst hslot hw => ⟨code_of_decode hw, (perform_bus hrst _).trans (memWrite_refused hslot hw s)⟩

end Sys2Proof.Proofs
end

section
/-! PROOFS. The dispatch (spec/40_dispatch.md): the `IDLE` iteration and NOP (R129, R125), the transitions of `SEQ` (R130), and
the time a settle loop takes (R131). -/

open Sys2Proof.Machine Sys2Proof.Statements

namespace Sys2Proof.Proofs

/-! ### The `IDLE` iteration -/

/-- Settles O28: out of reset the iteration is the Control agent's, which in `IDLE` is one update. -/
theorem idleIterationOnlyUpdates : Obligations.IdleIterationOnlyUpdates := by
  unfold Obligations.IdleIterationOnlyUpdates
  intro s hrst hidle
  calc perform .iterate s = .next (iterate s) := perform_of_running _ hrst
    _ = .next (update s.pins.timeUs s) := congrArg _ (iterate_idle hidle)

/-! ### NOP -/

/-- Completing an immediate command, which is still in `IDLE`, reports the outcome and changes nothing else (R126). -/
theorem complete_of_idle (r : Bool) {s : State} (hidle : s.seq = .idle) :
    complete r s = { s with flags := { s.flags with done := true, result := r } } := by
  rw [complete, ← hidle]

/-- Every command is refused with `BUSY` outside `IDLE` (R98). -/
theorem busyRefused (i : Instr) : BusyRefused i := fun s hbusy => exec_busy i s hbusy

/-- NOP in `IDLE`: the prologue and the completion together write the three result bits (R122, R125). -/
theorem exec_nop_idle {s : State} (hidle : s.seq = .idle) : exec .nop s = .next { s with flags := succeeded s.flags } := by
  have hprologue : (prologue s).seq = .idle := hidle
  calc exec .nop s = .next (complete true (prologue s)) := exec_idle .nop s hidle
    _ = .next { s with flags := succeeded s.flags } := congrArg _ (complete_of_idle true hprologue)

/-- Settles O8: NOP decodes from its own encoding, and the reset state is in `IDLE`. -/
theorem nopReportsSuccessOnly : Obligations.NopReportsSuccessOnly := by
  unfold Obligations.NopReportsSuccessOnly
  exact ⟨decode_encode .nop, fun s hidle => exec_nop_idle hidle, busyRefused .nop, _, exec_nop_idle rfl, by decide⟩

/-! ### The transitions of an iteration (R130) -/

/-- A settle loop follows the table if its staying and its exit do (R131). -/
theorem settle_followsTable (now : Stamp) (exit : State → State) {s : State} {p q : Seq} (hseq : s.seq = p)
    (hexit : ∀ t, (exit t).seq = q) (hstay : iterationMayGo p p = true := by rfl)
    (hleave : iterationMayGo p q = true := by rfl) : iterationMayGo p (settle now exit s).seq = true := by
  rcases settle_cases now exit s with ⟨-, e⟩ | ⟨-, e⟩ <;> rw [e]
  · rw [hexit]; exact hleave
  · rw [update_seq, hseq]; exact hstay

theorem timeoutCheck_seq (now : Stamp) (s : State) :
    (timeoutCheck now s).seq = s.seq ∨ (timeoutCheck now s).seq = .mvStopFail := by
  rcases timeoutCheck_cases now s with ⟨-, e⟩ | ⟨-, e⟩ <;> rw [e]
  · exact .inr rfl
  · exact .inl rfl

theorem stallCheck_seq (now : Stamp) (c : Word) (s : State) :
    (stallCheck now c s).seq = s.seq ∨ (stallCheck now c s).seq = .mvStopFail := by
  rcases stallCheck_cases now c s with ⟨-, -, e⟩ | ⟨-, -, e⟩ | ⟨-, e⟩ <;> rw [e]
  · exact .inr rfl
  · exact timeoutCheck_seq now _
  · exact timeoutCheck_seq now s

theorem moveIter_seq (now : Stamp) (s : State) :
    (moveIter now s).seq = .mvStopOk ∨ (moveIter now s).seq = s.seq ∨ (moveIter now s).seq = .mvStopFail := by
  rcases moveIter_cases now s with ⟨-, e⟩ | ⟨-, e⟩ <;> rw [e]
  · exact .inl rfl
  · rw [← (profiled_frame now s).1]
    exact .inr (stallCheck_seq now _ _)

theorem watchIter_seq (now : Stamp) (s : State) :
    (watchIter now s).seq = .idle ∨ (watchIter now s).seq = .hdNudge ∨ (watchIter now s).seq = s.seq := by
  rcases watchIter_cases now s with ⟨-, e⟩ | ⟨-, -, -, e⟩ | ⟨-, -, e⟩ <;> rw [e]
  · exact .inl rfl
  · exact .inr (.inl rfl)
  · exact .inr (.inr rfl)

theorem nudgeIter_seq (now : Stamp) (s : State) :
    (nudgeIter now s).seq = .hdNudgeStop ∨ (nudgeIter now s).seq = s.seq := by
  rcases nudgeIter_cases now s with ⟨-, e⟩ | ⟨-, e⟩ <;> rw [e]
  · exact .inl rfl
  · exact .inr rfl

/-- An iteration moves along the iteration rows of R130, one case per state of the sequencer. -/
theorem iterate_followsTable (s : State) : iterationMayGo s.seq (iterate s).seq = true := by
  unfold iterate iterateAt
  generalize s.pins.timeUs = now
  cases hseq : s.seq with
  | idle => simp [iterationMayGo, hseq]
  | mvRun => rcases moveIter_seq now s with e | e | e <;> simp [iterationMayGo, e, hseq]
  | mvStopOk => exact settle_followsTable now (complete true) hseq fun _ => rfl
  | mvStopFail => exact settle_followsTable now (complete false) hseq fun _ => rfl
  | hdSettle => exact settle_followsTable now (beginWatch now) hseq fun _ => rfl
  | hdWatch => rcases watchIter_seq now s with e | e | e <;> simp [iterationMayGo, e, hseq]
  | hdNudge => rcases nudgeIter_seq now s with e | e <;> simp [iterationMayGo, e, hseq]
  | hdNudgeStop => exact settle_followsTable now (resumeWatch now) hseq fun _ => rfl
  | brkSettle => exact settle_followsTable now (complete true) hseq fun _ => rfl

/-! ### The transitions of a host access (R130) -/

/-- A host access may always leave the sequencer where it is. -/
theorem acceptanceMayGo_self (q : Seq) : acceptanceMayGo q q = true := by cases q <;> rfl

theorem acceptanceMayGo_of_eq {p q : Seq} (h : q = p) : acceptanceMayGo p q = true := h ▸ acceptanceMayGo_self p

/-- An accepted command stays in `IDLE` or goes to the first state of its operation (R120, R130). -/
theorem actionOf_mayGo (i : Instr) (s : State) : acceptanceMayGo .idle (actionOf i s).seq = true := by
  have hmove (d : Bool) (v : Word) (now : Stamp) : acceptanceMayGo .idle (startMove d v now s).seq = true := by
    rcases startMove_cases d v now s with ⟨-, e⟩ | ⟨-, e⟩ <;> rw [e] <;> rfl
  cases i with
  | nop => rfl
  | move d => exact hmove _ _ _
  | wind => exact hmove _ _ _
  | unwind => exact hmove _ _ _
  | hold d => rfl
  | brake => rfl
  | settgt => rfl
  | setdir d => rfl
  | rdrst => rfl

theorem memWrite_mayGo {off : Offset} {v : Word} {s t : State} (ht : memWrite off v s = .next t) :
    acceptanceMayGo s.seq t.seq = true := by
  rcases memWrite_cases off v s with ⟨i, -, hidle, e⟩ | ⟨c, -, e⟩ | ⟨r, -, e⟩ | e <;>
    obtain rfl := Host.Outcome.next.inj (e.symm.trans ht)
  · rw [hidle]
    exact actionOf_mayGo i (prologue s)
  · exact acceptanceMayGo_self _
  · exact acceptanceMayGo_of_eq (writeReg_frame r v s).1
  · exact acceptanceMayGo_self _

theorem busAccess_mayGo {r : BusReq} {s t : State} (ht : busAccess r s = .next t) :
    acceptanceMayGo s.seq t.seq = true := by
  rcases busAccess_cases r s with ⟨d, n, e⟩ | ⟨off, v, d, n, e⟩
  · obtain rfl := Host.Outcome.next.inj (e.symm.trans ht)
    exact acceptanceMayGo_self _
  · have hwrite := memWrite_mayGo (e.symm.trans ht)
    exact hwrite

/-- Settles O41, one clause per agent: the pins are the environment's, and reset holds the sequencer in `IDLE`. -/
theorem sequencerFollowsTheTable : Obligations.SequencerFollowsTheTable := by
  unfold Obligations.SequencerFollowsTheTable
  intro s hrst
  refine ⟨⟨_, perform_of_running _ hrst, iterate_followsTable s⟩, fun r => ?host,
    ⟨_, perform_of_running _ hrst, increment_seq s⟩, fun x => ⟨_, perform_of_running _ hrst, rfl, rfl, rfl⟩,
    fun b => ⟨_, perform_of_running _ hrst, rfl, rfl, rfl⟩, ⟨_, perform_assert_reset hrst, rfl⟩⟩
  case host =>
    obtain ⟨t, ht⟩ := busAccess_next r s
    exact ⟨t, (perform_bus hrst r).trans ht, busAccess_mayGo ht⟩

/-! ### How long a settle loop lasts (R131)

With a target of 0 the time still to go does not depend on how the time before was cut into iterations: an update at `x` takes
off the speed exactly what the time up to `x` is worth, so whether a later time `y` is short of the ramp is the same question
before the update and after it. -/

/-- A settle loop under way: a settle state, braking to 0, with a limiter that has been updated before. -/
structure RampingDown (s : State) : Prop where
  settles : IsSettle s.seq
  toZero : s.slew.slTarget = 0
  updated : s.slew.slInit = true

/-- At the time `x` the ramp of `s` has not reached 0. -/
def ShortAt (s : State) (x : Stamp) : Prop := s.slew.slRate.toNat * dt64 x s.slew.slLast < s.slew.slCurrent.toNat

/-- A step toward 0 takes rate times time off the speed, and stops at 0 (R163, R165). -/
theorem slewStep_zero (c r d : Nat) : slewStep c 0 r d = c - r * d := by
  rcases slewStep_cases c 0 r d with h | h | h | h <;> omega

/-- Elapsed times of ordered timestamps add up (R13). -/
theorem dt64_add {a b c : Stamp} (hab : a.toNat ≤ b.toNat) (hbc : b.toNat ≤ c.toNat) : dt64 c a = dt64 b a + dt64 c b := by
  rw [dt64_of_le c a (hab.trans hbc), dt64_of_le b a hab, dt64_of_le c b hbc]
  omega

/-- In a settle state the iteration is a settle loop, whose exit leaves the limiter alone and goes to `IDLE` or `HD_WATCH`. -/
theorem iterateAt_of_settle (now : Stamp) {s : State} (h : IsSettle s.seq) :
    ∃ exit : State → State, iterateAt now s = settle now exit s ∧
      ∀ t, (exit t).slew = t.slew ∧ ((exit t).seq = .idle ∨ (exit t).seq = .hdWatch) := by
  rcases h with hseq | hseq | hseq | hseq | hseq <;> rw [iterateAt, hseq]
  · exact ⟨complete true, rfl, fun _ => ⟨rfl, .inl rfl⟩⟩
  · exact ⟨complete false, rfl, fun _ => ⟨rfl, .inl rfl⟩⟩
  · exact ⟨beginWatch now, rfl, fun _ => ⟨rfl, .inr rfl⟩⟩
  · exact ⟨resumeWatch now, rfl, fun _ => ⟨rfl, .inr rfl⟩⟩
  · exact ⟨complete true, rfl, fun _ => ⟨rfl, .inl rfl⟩⟩

section
variable {s : State} {x y : Stamp}

/-- What an update leaves of the speed while braking to 0. -/
theorem RampingDown.update_slCurrent (h : RampingDown s) (x : Stamp) :
    (update x s).slew.slCurrent.toNat = s.slew.slCurrent.toNat - s.slew.slRate.toNat * dt64 x s.slew.slLast := by
  calc (update x s).slew.slCurrent.toNat
      = slewStep s.slew.slCurrent.toNat s.slew.slTarget.toNat s.slew.slRate.toNat (dt64 x s.slew.slLast) :=
        slewAdvance_slCurrent_toNat x s.slew h.updated
    _ = slewStep s.slew.slCurrent.toNat 0 s.slew.slRate.toNat (dt64 x s.slew.slLast) := by rw [h.toZero]; rfl
    _ = s.slew.slCurrent.toNat - s.slew.slRate.toNat * dt64 x s.slew.slLast := slewStep_zero _ _ _

theorem RampingDown.keptByUpdate (h : RampingDown s) (x : Stamp) : RampingDown (update x s) where
  settles := h.settles
  toZero := by simpa using h.toZero
  updated := by simp

/-- An update leaves the speed above 0 exactly when its time is short of the ramp. -/
theorem RampingDown.update_ne_zero_iff (h : RampingDown s) : (update x s).slew.slCurrent ≠ 0 ↔ ShortAt s x := by
  have hcur := h.update_slCurrent x
  rw [ne_eq, ← BitVec.toNat_inj, hcur]
  exact Nat.sub_ne_zero_iff_lt

/-- An update in between does not change whether a later time is short of the ramp (R168). -/
theorem RampingDown.shortAt_update (h : RampingDown s) (hx : s.slew.slLast.toNat ≤ x.toNat) (hxy : x.toNat ≤ y.toNat) :
    ShortAt (update x s) y ↔ ShortAt s y := by
  have hlast : (update x s).slew.slLast = x := by simp
  have hrate : (update x s).slew.slRate = s.slew.slRate := by simp
  unfold ShortAt
  rw [h.update_slCurrent x, hlast, hrate, dt64_add hx hxy, Nat.mul_add]
  omega

/-- An iteration short of the ramp is one update: the loop stays. -/
theorem RampingDown.iterateAt_of_short (h : RampingDown s) (hshort : ShortAt s x) : iterateAt x s = update x s := by
  obtain ⟨exit, e, -⟩ := iterateAt_of_settle x h.settles
  rw [e]
  exact if_neg (h.update_ne_zero_iff.2 hshort)

/-- The first iteration that is not short of the ramp leaves the loop at rest. -/
theorem RampingDown.iterateAt_of_over (h : RampingDown s) (hover : ¬ ShortAt s x) :
    ((iterateAt x s).seq = .idle ∨ (iterateAt x s).seq = .hdWatch) ∧ (iterateAt x s).slew.slCurrent = 0 := by
  obtain ⟨exit, e, hexit⟩ := iterateAt_of_settle x h.settles
  obtain ⟨hslew, hseq⟩ := hexit (update x s)
  have hrest : (update x s).slew.slCurrent = 0 := not_not.1 (mt h.update_ne_zero_iff.1 hover)
  rw [e, settle, if_pos hrest, hslew]
  exact ⟨hseq, hrest⟩

end

/-- Iterations short of the ramp, at any ordered times, leave the loop under way and the rest of the ramp as long as it was. -/
theorem rampingDown_foldl {s m : State} {ts : List Stamp} {t : Stamp} (h : RampingDown s)
    (horder : InOrder (s.slew.slLast :: (ts ++ [t]))) (hshort : ∀ x ∈ ts, ShortAt s x)
    (hm : m = ts.foldl (fun a now => iterateAt now a) s) :
    RampingDown m ∧ m.seq = s.seq ∧ (ShortAt m t ↔ ShortAt s t) := by
  induction ts generalizing s with
  | nil =>
    obtain rfl : m = s := hm
    exact ⟨h, rfl, Iff.rfl⟩
  | cons x xs ih =>
    obtain ⟨hfirst, hrest⟩ := List.pairwise_cons.1 horder
    have hx : s.slew.slLast.toNat ≤ x.toNat := hfirst x (by simp)
    have hlater {y : Stamp} (hy : y ∈ xs ++ [t]) : ShortAt (update x s) y ↔ ShortAt s y :=
      h.shortAt_update hx ((List.pairwise_cons.1 hrest).1 y hy)
    have hlast : (update x s).slew.slLast = x := by simp
    rw [List.foldl_cons, h.iterateAt_of_short (hshort x (by simp))] at hm
    obtain ⟨hramp, hseq, hiff⟩ := ih (h.keptByUpdate x) (hlast.symm ▸ hrest)
      (fun y hy => (hlater (by simp [hy])).2 (hshort y (by simp [hy]))) hm
    exact ⟨hramp, hseq, hiff.trans (hlater (by simp))⟩

/-- Settles O34: the short iterations leave the loop under way, and the last one is short of what they left exactly when it is
short of the whole ramp. -/
theorem settleLoopLastsTheRamp : Obligations.SettleLoopLastsTheRamp := by
  unfold Obligations.SettleLoopLastsTheRamp
  intro s m ts t hsettle htarget hinit horder hshort hm
  obtain ⟨hramp, hseq, hiff⟩ := rampingDown_foldl ⟨hsettle, htarget, hinit⟩ horder hshort hm
  refine ⟨hseq, fun hlast => ?_, fun hover => hramp.iterateAt_of_over fun hlast => ?_⟩
  · rw [hramp.iterateAt_of_short (hiff.2 hlast)]
    exact hseq
  · exact absurd (hiff.1 hlast) (Nat.not_lt.2 hover)

end Sys2Proof.Proofs
end

section
/-! PROOFS. The pulse counter (spec/41_pulse_counter.md): the edge event (R141, R142) and RDRST (R145, R146). -/

open Sys2Proof.Machine Sys2Proof.Statements

namespace Sys2Proof.Proofs

/-! ### The edge event -/

theorem increment_of_enabled {s : State} (hen : s.ctrl.fgEn = true) :
    increment s = { s with pulse := { s.pulse with pcnt := satInc s.pulse.pcnt } } := if_pos hen

/-- A suspended edge source drops the pulse (R142). -/
theorem increment_of_suspended {s : State} (hsusp : s.ctrl.fgEn = false) : increment s = s :=
  if_neg (Bool.eq_false_iff.1 hsusp)

/-- Settles O18: out of reset the Edge agent's step is `increment`, whose new count `satInc_value` gives as a number. -/
theorem edgeCountsOnceWhenEnabled : Obligations.EdgeCountsOnceWhenEnabled := by
  unfold Obligations.EdgeCountsOnceWhenEnabled
  intro s hrst
  have hstep : perform .edge s = .next (increment s) := perform_of_running _ hrst
  refine ⟨fun hen => ⟨satInc s.pulse.pcnt, satInc_value s.pulse.pcnt, ?_⟩, fun hsusp => ?_⟩
  · rw [hstep, increment_of_enabled hen]
  · rw [hstep, increment_of_suspended hsusp]

/-! ### RDRST -/

/-- RDRST in `IDLE` writes the result bits, both pulse registers and the enable, and nothing else (R122, R145, R146). -/
theorem exec_rdrst_idle_eq {s : State} (hidle : s.seq = .idle) :
    exec .rdrst s = .next { s with
      flags := succeeded s.flags
      pulse := { pcnt := 0, pcap := s.pulse.pcnt }
      ctrl := { s.ctrl with fgEn := true } } := by
  have hcaptured : (readAndReset (prologue s)).seq = .idle := hidle
  calc exec .rdrst s = .next (complete true (readAndReset (prologue s))) := exec_idle .rdrst s hidle
    _ = _ := congrArg _ (complete_of_idle true hcaptured)

/-- Settles O12: the whole effect in `IDLE`, and the refusal every command meets elsewhere. -/
theorem rdrstCapturesAndClears : Obligations.RdrstCapturesAndClears := by
  unfold Obligations.RdrstCapturesAndClears
  exact ⟨decode_encode .rdrst, fun s hidle => exec_rdrst_idle_eq hidle, busyRefused .rdrst⟩

end Sys2Proof.Proofs
end

section
/-! PROOFS. The slew-rate limiter (spec/42_slew_limiter.md): one update and any schedule of them (R163 to R168), the commands
SETTGT, BRAKE and SETDIR (R172 to R174), and the settle loops that report an outcome (R175, R207, R208). -/

open Sys2Proof.Machine Sys2Proof.Statements

namespace Sys2Proof.Proofs

/-! ### The slew step -/

/-- A slew step as one expression: toward the target by rate times time, and no further than the target (R163). -/
theorem slewStep_eq_min_max (c t r d : Nat) :
    (slewStep c t r d : Int) = if c ≤ t then min (t : Int) (c + r * d) else max (t : Int) (c - r * d) := by
  rw [← Nat.cast_mul]
  rcases slewStep_cases c t r d with ⟨hup, _, e⟩ | ⟨hup, _, e⟩ | ⟨hdown, _, e⟩ | ⟨hdown, _, e⟩
  · rw [e, if_pos hup]; omega
  · rw [e, if_pos hup]; omega
  · rw [e, if_neg (Nat.not_le.2 hdown)]; omega
  · rw [e, if_neg (Nat.not_le.2 hdown)]; omega

/-- A slew step never passes the smaller of the current speed and the target (R168 property 1). -/
theorem min_le_slewStep (c t r d : Nat) : min c t ≤ slewStep c t r d := by
  rcases slewStep_cases c t r d with h | h | h | h <;> omega

/-- A slew step changes the speed by at most rate times time (R168 property 2). -/
theorem slewStep_change_le (c t r d : Nat) : ((slewStep c t r d : Int) - c).natAbs ≤ r * d := by
  rcases slewStep_cases c t r d with h | h | h | h <;> omega

/-- A slew step ends on the target exactly when rate times time covers the gap (R165, R168 property 4). -/
theorem slewStep_eq_target_iff (c t r d : Nat) : slewStep c t r d = t ↔ ((t : Int) - c).natAbs ≤ r * d := by
  rcases slewStep_cases c t r d with h | h | h | h <;> omega

/-! ### One update -/

/-- An update writes the speed, the time, the mark that it happened and the duty, and nothing else (R163, R166). -/
theorem update_eq (now : Stamp) (s : State) :
    update now s = { s with
      slew := { s.slew with
        slCurrent := (slewAdvance now s.slew).slCurrent
        slLast := now
        slInit := true
        duty := dutyOf (slewAdvance now s.slew).slCurrent s.cfg.pwmPeriod } } := by
  unfold update
  cases hinit : s.slew.slInit with
  | false => rw [slewAdvance_of_not_init now s.slew hinit]
  | true => rw [slewAdvance_of_init now s.slew hinit, ← hinit]

section
variable {s : State} (now : Stamp)

/-- The first update after reset leaves the speed alone (R164). -/
theorem update_slCurrent_of_not_init (hinit : s.slew.slInit = false) :
    (update now s).slew.slCurrent = s.slew.slCurrent := by
  rw [update_eq, slewAdvance_of_not_init now s.slew hinit]

/-- Every later update makes one slew step over the time elapsed (R163). -/
theorem update_slCurrent_of_init (hinit : s.slew.slInit = true) :
    (update now s).slew.slCurrent.toNat =
      slewStep s.slew.slCurrent.toNat s.slew.slTarget.toNat s.slew.slRate.toNat (dt64 now s.slew.slLast) :=
  slewAdvance_slCurrent_toNat now s.slew hinit

end

/-- Settles O19: the update is `update_eq`, and its speed is unchanged the first time and the slew step later. -/
theorem updateStepsTowardTheTarget : Obligations.UpdateStepsTowardTheTarget := by
  unfold Obligations.UpdateStepsTowardTheTarget
  intro s now hcur htgt
  have hrange : (update now s).slew.slCurrent.toNat ≤ 100000000 := slewAdvance_slCurrent_le now s.slew _ hcur htgt
  refine ⟨_, _, dutyOf_toNat _ s.cfg.pwmPeriod hrange, update_eq now s, update_slCurrent_of_not_init now, fun hinit => ?_⟩
  rw [update_slCurrent_of_init now hinit]
  exact slewStep_eq_min_max _ _ _ _

/-- Settles O20: the first update changes no speed, and a later one moves it by a slew step, which has the three bounds. -/
theorem updateIsRateLimited : Obligations.UpdateIsRateLimited := by
  unfold Obligations.UpdateIsRateLimited
  intro s now hcur htgt
  refine ⟨slewAdvance_slCurrent_le now s.slew _ hcur htgt, ?_⟩
  cases hinit : s.slew.slInit with
  | false =>
    rw [update_slCurrent_of_not_init now hinit]
    omega
  | true =>
    rw [update_slCurrent_of_init now hinit]
    exact ⟨min_le_slewStep _ _ _ _, slewStep_le_max _ _ _ _, slewStep_change_le _ _ _ _⟩

/-- Settles O22: the speed after the update is a slew step, which ends on the target exactly when it covers the gap. -/
theorem rampEndsWhenTimeCoversTheGap : Obligations.RampEndsWhenTimeCoversTheGap := by
  unfold Obligations.RampEndsWhenTimeCoversTheGap
  intro s now hinit
  rw [← BitVec.toNat_inj, update_slCurrent_of_init now hinit]
  exact slewStep_eq_target_iff _ _ _ _

/-! ### A schedule of updates -/

/-- Of two updates in order the second alone leaves the same state (R168 property 3): both slew steps together are one step of
the summed time, and the second update writes over whatever else the first one wrote. -/
theorem update_update {s : State} {x y : Stamp} (hinit : s.slew.slInit = true)
    (hx : s.slew.slLast.toNat ≤ x.toNat) (hxy : x.toNat ≤ y.toNat) : update y (update x s) = update y s := by
  have hspeed : (slewAdvance y (update x s).slew).slCurrent = (slewAdvance y s.slew).slCurrent := by
    have hfirst := update_slCurrent_of_init x hinit
    have hlater := slewAdvance_slCurrent_toNat y (update x s).slew (by rw [update_eq])
    apply BitVec.eq_of_toNat_eq
    rw [hlater, hfirst, slewAdvance_slCurrent_toNat y s.slew hinit, dt64_add hx hxy, ← slewStep_add, update_eq]
  rw [update_eq y (update x s), update_eq y s, hspeed, update_eq x s]

/-- Settles O21, by induction on the schedule: its first update is absorbed by the last one. -/
theorem rampIgnoresTheSchedule : Obligations.RampIgnoresTheSchedule := by
  unfold Obligations.RampIgnoresTheSchedule
  intro s ts t hinit horder
  induction ts generalizing s with
  | nil => rfl
  | cons x xs ih =>
    obtain ⟨hfirst, hrest⟩ := List.pairwise_cons.1 horder
    have hx : s.slew.slLast.toNat ≤ x.toNat := hfirst x (by simp)
    have hxt : x.toNat ≤ t.toNat := (List.pairwise_cons.1 hrest).1 t (by simp)
    have hlast : (update x s).slew.slLast = x := by rw [update_eq]
    calc (xs ++ [t]).foldl (fun a now => update now a) (update x s)
        = update t (update x s) := ih (update x s) (by rw [update_eq]) (hlast.symm ▸ hrest)
      _ = update t s := update_update hinit hx hxt

/-! ### SETTGT, BRAKE and SETDIR -/

/-- `speed_of` clamps to `[0, FS]` (R11). -/
theorem speedOf_clamped (v : Word) : ClampedSpeed v (speedOf v) := by
  have hvalue := speedOf_value v
  unfold clamp at hvalue
  unfold ClampedSpeed
  have hfull : (Config.fullScale : Int) = 100000000 := rfl
  split_ifs at hvalue <;> omega

/-- `rate_of` replaces a non-positive rate by 1 (R12). -/
theorem rateOf_positive (v : Word) : PositiveRate v (rateOf v) := rateOf_value v

section
variable {s : State} (hidle : s.seq = .idle)
include hidle

/-- SETTGT in `IDLE` writes the target, the rate and the result bits (R161, R172). -/
theorem exec_settgt_idle_eq :
    exec .settgt s = .next { s with
      flags := succeeded s.flags
      slew := { s.slew with slTarget := speedOf s.opd.slArgSpeed, slRate := rateOf s.opd.slArgRate } } := by
  have hset : (setTarget s.opd.slArgSpeed s.opd.slArgRate (prologue s)).seq = .idle := hidle
  calc exec .settgt s = .next (complete true (setTarget s.opd.slArgSpeed s.opd.slArgRate (prologue s))) :=
        exec_idle .settgt s hidle
    _ = _ := congrArg _ (complete_of_idle true hset)

/-- BRAKE in `IDLE` commands zero at the braking rate and runs on in `BRK_SETTLE` (R169, R173). -/
theorem exec_brake_idle_eq :
    exec .brake s = .next { s with
      seq := .brkSettle
      flags := accepted s.flags
      slew := { s.slew with slTarget := 0, slRate := rateOf s.cfg.rateBrake } } := by
  calc exec .brake s = .next (goto .brkSettle (brake (prologue s))) := exec_idle .brake s hidle
    _ = _ := congrArg _ (goto_brake .brkSettle (prologue s))

/-- SETDIR in `IDLE` writes the direction line and the result bits, and looks at no speed (R171, R174). -/
theorem exec_setdir_idle_eq (d : Bool) :
    exec (.setdir d) s = .next { s with flags := succeeded s.flags, dir := d } := by
  have hset : (setDir d (prologue s)).seq = .idle := hidle
  calc exec (.setdir d) s = .next (complete true (setDir d (prologue s))) := exec_idle (.setdir d) s hidle
    _ = _ := congrArg _ (complete_of_idle true hset)

end

/-- Settles O9: the whole effect in `IDLE`, with the two operands brought into range. -/
theorem settgtRecordsTargetAndRate : Obligations.SettgtRecordsTargetAndRate := by
  unfold Obligations.SettgtRecordsTargetAndRate
  exact ⟨decode_encode .settgt,
    fun s hidle => ⟨_, _, speedOf_clamped s.opd.slArgSpeed, rateOf_positive s.opd.slArgRate, exec_settgt_idle_eq hidle⟩,
    busyRefused .settgt⟩

/-- Settles O10: the whole effect in `IDLE`, with the braking rate brought into range. -/
theorem brakeCommandsZeroAndSettles : Obligations.BrakeCommandsZeroAndSettles := by
  unfold Obligations.BrakeCommandsZeroAndSettles
  exact ⟨decode_encode .brake, fun s hidle => ⟨_, rateOf_positive s.cfg.rateBrake, exec_brake_idle_eq hidle⟩,
    busyRefused .brake⟩

/-- Settles O11: the whole effect in `IDLE`, for both directions. -/
theorem setdirSetsTheDirectionLine : Obligations.SetdirSetsTheDirectionLine := by
  unfold Obligations.SetdirSetsTheDirectionLine
  exact ⟨decode_encode (.setdir false), decode_encode (.setdir true), fun s d hidle => exec_setdir_idle_eq hidle d,
    fun d => busyRefused (.setdir d)⟩

/-! ### The settle loops that report an outcome -/

/-- `q` is a settle loop that ends its operation with the outcome `ok` (R175, R207, R208). -/
def ReportsOutcome (ok : Bool) (q : Seq) : Prop :=
  (ok = true ∧ (q = .mvStopOk ∨ q = .brkSettle)) ∨ (ok = false ∧ q = .mvStopFail)

section
variable {ok : Bool} {s : State} (hloop : ReportsOutcome ok s.seq)
include hloop

/-- The iteration is a settle loop whose exit reports the outcome (R131, R126). -/
theorem iterate_of_reportsOutcome : iterate s = settle s.pins.timeUs (complete ok) s := by
  rcases hloop with ⟨rfl, hseq | hseq⟩ | ⟨rfl, hseq⟩ <;> rw [iterate, iterateAt, hseq] <;> rfl

/-- The loop holds the commanded speed at zero (R37 item 8). -/
theorem commandsZero_of_reportsOutcome : commandsZero s.seq = true := by
  rcases hloop with ⟨-, hseq | hseq⟩ | ⟨-, hseq⟩ <;> rw [hseq] <;> rfl

/-- In a legal state a cause is recorded exactly in the loop that reports failure (R264). -/
theorem cause_none_iff_of_reportsOutcome (hflags : FlagInv s) : s.flags.cause = .none ↔ ok = true := by
  rcases hloop with ⟨hok, hseq | hseq⟩ | ⟨hok, hseq⟩
  · exact iff_of_true (underway_of_running hflags hseq).cause hok
  · exact iff_of_true (underway_of_running hflags hseq).cause hok
  · exact iff_of_false (hflags.causeOfFailure hseq) (by simp [hok])

end

/-- Settles O32: the loop's one settle iteration, with legality giving the commanded speed and the cause, and rest the duty. -/
theorem settleReportsTheOutcome : Obligations.SettleReportsTheOutcome := by
  unfold Obligations.SettleReportsTheOutcome
  rintro s u ok hinv hrst rfl hloop
  have hstep : perform .iterate s = .next (settle s.pins.timeUs (complete ok) s) :=
    (perform_of_running _ hrst).trans (congrArg _ (iterate_of_reportsOutcome hloop))
  have htarget : s.slew.slTarget = 0 := hinv.slew.zeroCommanded (commandsZero_of_reportsOutcome hloop)
  refine ⟨fun hmoving => ?moving, fun hrest => ⟨?report, ?target, update_duty_of_rest _ s hrest,
    cause_none_iff_of_reportsOutcome hloop hinv.flags⟩⟩
  case moving => rw [hstep, settle, if_neg hmoving]
  case report => rw [hstep, settle, if_pos hrest]; rfl
  case target => rw [update_eq]; exact htarget

end Sys2Proof.Proofs
end

section
/-! PROOFS. The Move-By-Distance Controller (spec/43_move.md): the padding, the profile and the stall bands (R194, R200, R203),
the commands MOVE, WIND and UNWIND (R191 to R196), and the iterations of `MV_RUN` (R197 to R206). -/

open Sys2Proof.Machine Sys2Proof.Statements

namespace Sys2Proof.Proofs

/-! ### The padding and the profile -/

/-- `padding` shrinks the padding distance's pulses to half the target (R194). -/
theorem paddingOf_shrunk (tgt : Nat) (d ppm : Word) : ShrunkPadding tgt (pulsesOf d ppm) (paddingOf tgt d ppm) := rfl

/-- Settles O25: the raw count is that of `pulses_of`. -/
theorem paddingIsAtMostHalf : Obligations.PaddingIsAtMostHalf := by
  unfold Obligations.PaddingIsAtMostHalf
  exact fun tgt d ppm => ⟨pulsesOf d ppm, pulsesOf_rounded d ppm, paddingOf_shrunk tgt d ppm, paddingOf_half tgt d ppm⟩

section
variable {p : MoveProfile} {c : Word}

/-- The acceleration zone (R200). -/
theorem profile_of_lt_padding (h : c.toNat < p.pPadn.toNat) : profile p c = p.pPadspd := if_pos h

/-- The deceleration zone, whether or not the acceleration zone overlaps it (R200). -/
theorem profile_of_target_lt (h : p.pTarget.toNat < c.toNat + p.pPadn.toNat) : profile p c = p.pPadspd := by
  have hremaining : (p.pTarget.toNat : Int) - c.toNat < p.pPadn.toNat := by omega
  rw [profile, if_pos hremaining, ite_self]

/-- The cruise zone: neither the count nor the remaining count is below the padding count (R200). -/
theorem profile_of_between (hstart : p.pPadn.toNat ≤ c.toNat) (hend : c.toNat + p.pPadn.toNat ≤ p.pTarget.toNat) :
    profile p c = p.pCruise := by
  rw [profile, if_neg (by omega), if_neg (by omega)]

end

/-- Settles O26, one lemma per zone; none of them needs the count to be below the target. -/
theorem profileHasThreeZones : Obligations.ProfileHasThreeZones := by
  unfold Obligations.ProfileHasThreeZones
  exact fun p c _ => ⟨profile_of_lt_padding, profile_of_target_lt, profile_of_between⟩

/-! ### The stall bands -/

/-- The bands of the stall table in the order of their registers: lower speed bound and minimum pulse delta (R35). -/
def bandsOf (t : StallTable) : List (Word × Word) :=
  [(t.thr0, t.min0), (t.thr1, t.min1), (t.thr2, t.min2), (t.thr3, t.min3)]

/-- The largest of `m` and the minima of the bands whose bound the speed `s` reaches. -/
def maxOverBands (s : Word) (bands : List (Word × Word)) (m : Nat) : Nat :=
  bands.foldl (fun m b => bandMin s b.1 b.2 m) m

theorem minPulses_eq_maxOverBands (t : StallTable) (s : Word) : minPulses t s = maxOverBands s (bandsOf t) 0 := rfl

theorem maxOverBands_cons (s : Word) (b : Word × Word) (bs : List (Word × Word)) (m : Nat) :
    maxOverBands s (b :: bs) m = maxOverBands s bs (bandMin s b.1 b.2 m) := rfl

theorem le_bandMin (s thr mn : Word) (m : Nat) : m ≤ bandMin s thr mn m := by
  rcases bandMin_cases s thr mn m with ⟨-, e⟩ | ⟨-, e⟩ <;> omega

theorem min_le_bandMin {s thr : Word} (h : thr.toNat ≤ s.toNat) (mn : Word) (m : Nat) : mn.toNat ≤ bandMin s thr mn m := by
  rcases bandMin_cases s thr mn m with ⟨-, e⟩ | ⟨hbelow, -⟩ <;> omega

theorem le_maxOverBands (s : Word) (bands : List (Word × Word)) (m : Nat) : m ≤ maxOverBands s bands m := by
  induction bands generalizing m with
  | nil => exact le_rfl
  | cons b bs ih => exact (le_bandMin s b.1 b.2 m).trans (ih _)

theorem min_le_maxOverBands {s : Word} {bands : List (Word × Word)} {b : Word × Word} (hb : b ∈ bands)
    (hreached : b.1.toNat ≤ s.toNat) (m : Nat) : b.2.toNat ≤ maxOverBands s bands m := by
  induction bands generalizing m with
  | nil => cases hb
  | cons a bs ih =>
    rw [maxOverBands_cons]
    rcases List.mem_cons.1 hb with rfl | hb
    · exact (min_le_bandMin hreached b.2 m).trans (le_maxOverBands s bs _)
    · exact ih hb _

/-- The maximum is the value it starts from or is attained by a band the speed reaches. -/
theorem maxOverBands_attained (s : Word) (bands : List (Word × Word)) (m : Nat) :
    maxOverBands s bands m = m ∨ ∃ b ∈ bands, b.1.toNat ≤ s.toNat ∧ maxOverBands s bands m = b.2.toNat := by
  induction bands generalizing m with
  | nil => exact .inl rfl
  | cons a bs ih =>
    rw [maxOverBands_cons]
    rcases ih (bandMin s a.1 a.2 m) with hkept | ⟨b, hb, hreached, hmin⟩
    · rw [hkept]
      rcases bandMin_cases s a.1 a.2 m with ⟨hreached, e⟩ | ⟨-, e⟩
      · rcases max_choice m a.2.toNat with hmax | hmax
        · exact .inl (e.trans hmax)
        · exact .inr ⟨a, List.mem_cons_self, hreached, e.trans hmax⟩
      · exact .inl e
    · exact .inr ⟨b, List.mem_cons_of_mem a hb, hreached, hmin⟩

theorem maxOverBands_mono {s s' : Word} (hs : s.toNat ≤ s'.toNat) (bands : List (Word × Word)) {m m' : Nat} (hm : m ≤ m') :
    maxOverBands s bands m ≤ maxOverBands s' bands m' := by
  induction bands generalizing m m' with
  | nil => exact hm
  | cons b bs ih => exact ih (bandMin_mono s s' b.1 b.2 m m' hs hm)

/-- Settles O27: `min_pulses` is the maximum over the table's bands, started from 0. -/
theorem minPulsesIsTheLargestBand : Obligations.MinPulsesIsTheLargestBand := by
  unfold Obligations.MinPulsesIsTheLargestBand
  exact fun t s => ⟨fun _ hb hreached => min_le_maxOverBands hb hreached 0, maxOverBands_attained s (bandsOf t) 0,
    fun _ hs => maxOverBands_mono hs (bandsOf t) le_rfl⟩

/-! ### MOVE, WIND and UNWIND -/

/-- The brackets of R14 hold one pulse count only. -/
theorem roundedPulses_unique {dist ppm : Word} {m n : Nat} (hm : RoundedPulses dist ppm m) (hn : RoundedPulses dist ppm n) :
    m = n := by
  obtain ⟨hmzero, hmpos⟩ := hm
  obtain ⟨hnzero, hnpos⟩ := hn
  by_cases hdist : dist.toInt ≤ 0
  · rw [hmzero hdist, hnzero hdist]
  · have := hmpos (by omega)
    have := hnpos (by omega)
    omega

/-- A padding count fits its register, so storing it keeps whether padding is active (R194). -/
theorem moveProfileOf_pPadn_toNat (d : Bool) (v : Word) (s : State) :
    (moveProfileOf d v s).pPadn.toNat = paddingOf (pulsesOf s.opd.mvDist s.cfg.ppm) s.opd.mvPadDist s.cfg.ppm := by
  have htarget := pulsesOf_le s.opd.mvDist s.cfg.ppm
  have hpad := paddingOf_half (pulsesOf s.opd.mvDist s.cfg.ppm) s.opd.mvPadDist s.cfg.ppm
  exact (BitVec.toNat_ofNat _ _).trans (Nat.mod_eq_of_lt (by omega))

section
variable {s : State} (d : Bool) (v : Word)

/-- `start_move` of a positive distance begins the run of R195. -/
theorem startMove_begun (hpos : 0 < s.opd.mvDist.toInt) :
    MoveBegun s d v (startMove d v s.pins.timeUs (prologue s)) := by
  have hbegin : startMove d v s.pins.timeUs (prologue s) = beginMove d v s.pins.timeUs (prologue s) :=
    if_neg (not_le.2 hpos)
  refine ⟨_, _, _, _, _, _, pulsesOf_rounded _ _, pulsesOf_le _ _, pulsesOf_rounded _ _, paddingOf_shrunk _ _ _,
    speedOf_clamped v, speedOf_clamped _, rateOf_positive _, ?_⟩
  rw [hbegin, beginMove_eq, moveProfileOf_pPadn_toNat]
  rfl

/-- `start_move` of a non-positive distance in `IDLE` reports success and changes nothing else (R196). -/
theorem startMove_trivial (hidle : s.seq = .idle) (hdist : s.opd.mvDist.toInt ≤ 0) (now : Stamp) :
    startMove d v now (prologue s) = { s with flags := succeeded s.flags } := by
  have hprologue : (prologue s).seq = .idle := hidle
  calc startMove d v now (prologue s) = complete true (prologue s) := if_pos hdist
    _ = { s with flags := succeeded s.flags } := complete_of_idle true hprologue

end

section
variable {s : State} (hidle : s.seq = .idle)
include hidle

theorem exec_move_idle (d : Bool) :
    exec (.move d) s = .next (startMove d s.opd.mvCruise s.pins.timeUs (prologue s)) := exec_idle (.move d) s hidle

theorem exec_wind_idle :
    exec .wind s = .next (startMove s.ctrl.windDir s.cfg.windCruise s.pins.timeUs (prologue s)) := exec_idle .wind s hidle

theorem exec_unwind_idle :
    exec .unwind s = .next (startMove (!s.ctrl.windDir) s.cfg.unwindCruise s.pins.timeUs (prologue s)) :=
  exec_idle .unwind s hidle

/-- Each of the three commands is a `start_move` in some direction at some cruise speed (R191 to R193). -/
theorem exec_startMove {i : Instr} (hi : i = .wind ∨ i = .unwind ∨ ∃ d, i = .move d) :
    ∃ d v, exec i s = .next (startMove d v s.pins.timeUs (prologue s)) := by
  rcases hi with rfl | rfl | ⟨d, rfl⟩
  · exact ⟨_, _, exec_wind_idle hidle⟩
  · exact ⟨_, _, exec_unwind_idle hidle⟩
  · exact ⟨_, _, exec_move_idle hidle d⟩

end

/-- Settles O14: MOVE is `start_move` in its own direction at `MV_CRUISE`, and every command is refused outside `IDLE`. -/
theorem moveBeginsARun : Obligations.MoveBeginsARun := by
  unfold Obligations.MoveBeginsARun
  exact ⟨fun s d hidle hpos => ⟨_, exec_move_idle hidle d, startMove_begun d s.opd.mvCruise hpos⟩,
    fun d => busyRefused (.move d)⟩

/-- Settles O15: both commands begin the run that MOVE begins, each with its own direction and cruise operand. -/
theorem windAndUnwindBeginRuns : Obligations.WindAndUnwindBeginRuns := by
  unfold Obligations.WindAndUnwindBeginRuns
  exact ⟨fun s hidle hpos => ⟨⟨_, exec_wind_idle hidle, startMove_begun _ _ hpos⟩,
      ⟨_, exec_unwind_idle hidle, startMove_begun _ _ hpos⟩⟩,
    busyRefused .wind, busyRefused .unwind⟩

/-- Settles O16: a positive distance begins a run, whose target is the one count that R14 allows. -/
theorem nonPositiveDistanceIsTrivial : Obligations.NonPositiveDistanceIsTrivial := by
  unfold Obligations.NonPositiveDistanceIsTrivial
  intro s i hidle hi
  obtain ⟨d, v, hexec⟩ := exec_startMove hidle hi
  refine ⟨fun hdist => ?trivial, fun hpos => ⟨_, hexec, ?run⟩⟩
  case trivial => rw [hexec, startMove_trivial d v hidle hdist]
  case run =>
    obtain ⟨tgt, raw, pad, cr, ps, rate, htgt, -, -, -, -, -, -, ht⟩ := startMove_begun d v hpos
    rw [ht]
    exact ⟨rfl, rfl, rfl, fun hzero => congrArg (BitVec.ofNat 32) (roundedPulses_unique htgt hzero)⟩

/-! ### The iterations of `MV_RUN` -/

/-- Out of reset the Control agent's step in `MV_RUN` is `move_iter` at the sampled time (R128). -/
theorem perform_iterate_mvRun {s : State} (hrst : s.pins.rstN = true) (hrun : s.seq = .mvRun) :
    perform .iterate s = .next (moveIter s.pins.timeUs s) := by
  have hiterate : iterate s = moveIter s.pins.timeUs s := by rw [iterate, iterateAt, hrun]
  exact (perform_of_running _ hrst).trans (congrArg _ hiterate)

/-- Settles O29: the target is tested before anything else. -/
theorem targetReachedBrakes : Obligations.TargetReachedBrakes := by
  unfold Obligations.TargetReachedBrakes
  intro s hrst hrun hreached
  refine ⟨_, rateOf_positive s.cfg.rateBrake, ?_⟩
  calc perform .iterate s = .next (moveIter s.pins.timeUs s) := perform_iterate_mvRun hrst hrun
    _ = .next (goto .mvStopOk (brake s)) := congrArg _ (if_pos hreached)
    _ = _ := congrArg _ (goto_brake .mvStopOk s)

/-- The updated state with the speed command `spd` at the rate `rate`. -/
def commanded (now : Stamp) (spd rate : Word) (s : State) : State :=
  { update now s with slew := { (update now s).slew with slTarget := spd, slRate := rate } }

/-- The profile part of a move iteration changes the speed command alone: re-issued beyond the tolerance, kept within it. The
profile's speeds being in range, no clamping shows (R201). -/
theorem profiled_command (now : Stamp) {s : State} (hcruise : s.move.pCruise.toNat ≤ 100000000)
    (hpad : s.move.pPadspd.toNat ≤ 100000000) :
    ∃ spd rate : Word,
      (s.cfg.cmdTol.toNat < absDiff (profile s.move s.pulse.pcnt) s.slew.slTarget →
        spd = profile s.move s.pulse.pcnt ∧ PositiveRate s.cfg.rateRun rate) ∧
      (absDiff (profile s.move s.pulse.pcnt) s.slew.slTarget ≤ s.cfg.cmdTol.toNat →
        spd = s.slew.slTarget ∧ rate = s.slew.slRate) ∧
      profiled now s = commanded now spd rate s := by
  have hrange : (profile s.move s.pulse.pcnt).toNat ≤ Config.fullScale := by
    rcases profile_mem s.move s.pulse.pcnt with e | e <;> rw [e]
    · exact hcruise
    · exact hpad
  have htarget : (update now s).slew.slTarget = s.slew.slTarget := by simp
  rcases reissue_cases (profile s.move s.pulse.pcnt) (update now s) with ⟨hbeyond, e⟩ | ⟨hwithin, e⟩
  · rw [htarget, update_cfg] at hbeyond
    refine ⟨profile s.move s.pulse.pcnt, rateOf s.cfg.rateRun, fun _ => ⟨rfl, rateOf_positive _⟩, fun h => ?_, ?_⟩
    · exact absurd hbeyond (Nat.not_lt.2 h)
    · rw [profiled, e, setTarget, speedOf_of_le _ hrange]
      rfl
  · rw [htarget, update_cfg] at hwithin
    refine ⟨s.slew.slTarget, s.slew.slRate, fun h => ?_, fun _ => ⟨rfl, rfl⟩, ?_⟩
    · exact absurd h (Nat.not_lt.2 hwithin)
    · rw [profiled, e, commanded, update_eq]

/-- The stall window has elapsed with too few pulses for the commanded speed (R202, R203). -/
def Stalled (now : Stamp) (c : Word) (s : State) : Prop :=
  s.move.pStallwin.toNat ≤ dt64 now s.moveRun.wStart ∧
    (c.toNat : Int) - s.moveRun.wCount.toNat < minPulses s.stall s.slew.slTarget

/-- The move run state after a stall window that did not fail: a new window if this one has elapsed (R202, R205). -/
def windowRun (now : Stamp) (c : Word) (s : State) : MoveRun :=
  if s.move.pStallwin.toNat ≤ dt64 now s.moveRun.wStart then { s.moveRun with wStart := now, wCount := c } else s.moveRun

section
variable {now : Stamp} {c : Word} {s : State}

/-- A new window does not restart the timeout (R205). -/
theorem windowRun_tStart : (windowRun now c s).tStart = s.moveRun.tStart := by
  unfold windowRun
  split <;> rfl

theorem stallCheck_of_stalled (h : Stalled now c s) : stallCheck now c s = raiseFailure .stall s := by
  obtain ⟨helapsed, hfew⟩ := h
  exact (if_pos helapsed).trans (if_pos hfew)

/-- Without a stall the timeout is tested next, on the window that goes on or begins (R205, R206). -/
theorem stallCheck_of_not_stalled (h : ¬ Stalled now c s) :
    stallCheck now c s = timeoutCheck now { s with moveRun := windowRun now c s } := by
  rcases stallCheck_cases now c s with ⟨helapsed, hfew, -⟩ | ⟨helapsed, -, e⟩ | ⟨hopen, e⟩
  · exact absurd ⟨helapsed, hfew⟩ h
  · rw [e, windowRun, if_pos helapsed]
  · rw [e, windowRun, if_neg (Nat.not_le.2 hopen)]

theorem stallCheck_of_timedOut (h : ¬ Stalled now c s) (htime : s.move.pTimeout.toNat < dt64 now s.moveRun.tStart) :
    stallCheck now c s = raiseFailure .timeout { s with moveRun := windowRun now c s } := by
  rw [← windowRun_tStart] at htime
  exact (stallCheck_of_not_stalled h).trans (if_pos htime)

theorem stallCheck_of_inTime (h : ¬ Stalled now c s) (htime : ¬ s.move.pTimeout.toNat < dt64 now s.moveRun.tStart) :
    stallCheck now c s = { s with moveRun := windowRun now c s } := by
  rw [← windowRun_tStart] at htime
  exact (stallCheck_of_not_stalled h).trans (if_neg htime)

end

/-- Settles O30: on the updated and re-commanded state the stall window decides, then the timeout, whose start a new window
keeps. -/
theorem moveIterationTestsInOrder : Obligations.MoveIterationTestsInOrder := by
  unfold Obligations.MoveIterationTestsInOrder
  rintro s u now wanted hrst hrun hbelow hcruise hpad rfl rfl rfl
  obtain ⟨spd, rate, hbeyond, hwithin, hprofiled⟩ := profiled_command s.pins.timeUs hcruise hpad
  have hstep : perform .iterate s =
      .next (stallCheck s.pins.timeUs s.pulse.pcnt (commanded s.pins.timeUs spd rate s)) := by
    rw [perform_iterate_mvRun hrst hrun, ← hprofiled]
    exact congrArg _ (if_neg (Nat.not_le.2 hbelow))
  have hstalled_iff : Stalled s.pins.timeUs s.pulse.pcnt (commanded s.pins.timeUs spd rate s) ↔
      s.move.pStallwin.toNat ≤ (s.pins.timeUs - s.moveRun.wStart).toNat ∧
        (s.pulse.pcnt.toNat : Int) - s.moveRun.wCount.toNat < minPulses s.stall spd := Iff.rfl
  refine ⟨spd, rate, rateOf s.cfg.rateBrake, windowRun s.pins.timeUs s.pulse.pcnt s, hbeyond, hwithin, rateOf_positive _,
    rfl, ?_⟩
  split_ifs with hstalled htime
  · rw [hstep, stallCheck_of_stalled (hstalled_iff.2 hstalled), raiseFailure_eq]
    rfl
  · rw [hstep, stallCheck_of_timedOut (mt hstalled_iff.1 hstalled) htime, raiseFailure_eq]
    rfl
  · rw [hstep, stallCheck_of_inTime (mt hstalled_iff.1 hstalled) htime]
    rfl

end Sys2Proof.Proofs
end

section
/-! PROOFS. The Hold-Position Supervisor (spec/44_hold.md): the command HOLD (R231), the settle loops of a hold (R232, R237), the
iterations of `HD_WATCH` and `HD_NUDGE` (R233 to R236), and the end of a hold session (R230, R238). -/

open Sys2Proof.Machine Sys2Proof.Statements

namespace Sys2Proof.Proofs

/-! ### HOLD -/

/-- HOLD in `IDLE` latches its profile, clears the nudge count, and brakes in `HD_SETTLE` (R231). -/
theorem exec_hold_idle_eq (d : Bool) {s : State} (hidle : s.seq = .idle) :
    exec (.hold d) s = .next { s with
      seq := .hdSettle
      flags := accepted s.flags
      slew := { s.slew with slTarget := 0, slRate := rateOf s.cfg.rateBrake }
      hold := holdProfileOf d s
      holdRun := { s.holdRun with nudgeCnt := 0 } } := by
  calc exec (.hold d) s = .next (startHold d (prologue s)) := exec_idle (.hold d) s hidle
    _ = _ := congrArg _ (goto_brake .hdSettle _)

/-- Settles O17: the whole effect in `IDLE`, with the nudge speed and the braking rate brought into range. -/
theorem holdBeginsWithASettle : Obligations.HoldBeginsWithASettle := by
  unfold Obligations.HoldBeginsWithASettle
  exact ⟨fun s d hidle =>
      ⟨_, _, speedOf_clamped s.opd.hdNudgeSpeed, rateOf_positive s.cfg.rateBrake, exec_hold_idle_eq d hidle⟩,
    fun d => busyRefused (.hold d)⟩

/-! ### The settle loops of a hold -/

/-- The entry to `HD_WATCH` at the time `now` from the settle loop `q`: the counter reset, the gap begun, and the duration begun
by the first settle only (R232, R237). -/
def enterWatch (now : Stamp) (q : Seq) (s : State) : State :=
  { s with
    seq := .hdWatch
    ctrl := { s.ctrl with fgEn := true }
    pulse := { s.pulse with pcnt := 0 }
    holdRun := { s.holdRun with
      hStart := if q = .hdSettle then now else s.holdRun.hStart
      nLast := now } }

theorem beginWatch_eq (now : Stamp) : beginWatch now = enterWatch now .hdSettle := rfl

theorem resumeWatch_eq (now : Stamp) : resumeWatch now = enterWatch now .hdNudgeStop := rfl

/-- Both settle loops of a hold exit to `HD_WATCH` (R131, R232, R237). -/
theorem iterate_of_holdSettle {s : State} (hloop : s.seq = .hdSettle ∨ s.seq = .hdNudgeStop) :
    iterate s = settle s.pins.timeUs (enterWatch s.pins.timeUs s.seq) s := by
  rcases hloop with hseq | hseq <;> rw [iterate, iterateAt, hseq]
  · exact congrArg (settle _ · s) (beginWatch_eq _)
  · exact congrArg (settle _ · s) (resumeWatch_eq _)

/-- Settles O33: the loop's one settle iteration, whose exit enters the watch from the updated state. -/
theorem holdSettleBeginsTheWatch : Obligations.HoldSettleBeginsTheWatch := by
  unfold Obligations.HoldSettleBeginsTheWatch
  rintro s u hrst rfl hloop
  have hstep : perform .iterate s = .next (settle s.pins.timeUs (enterWatch s.pins.timeUs s.seq) s) :=
    (perform_of_running _ hrst).trans (congrArg _ (iterate_of_holdSettle hloop))
  refine ⟨fun hmoving => ?moving, fun hrest => ?watch⟩
  case moving => rw [hstep, settle, if_neg hmoving]
  case watch => rw [hstep, settle, if_pos hrest]; rfl

/-! ### The iterations of `HD_NUDGE` -/

theorem iterate_hdNudge {s : State} (hnudge : s.seq = .hdNudge) : iterate s = nudgeIter s.pins.timeUs s := by
  rw [iterate, iterateAt, hnudge]

/-- Settles O36: the quota is the one thing tested. -/
theorem nudgeIterationRule : Obligations.NudgeIterationRule := by
  unfold Obligations.NudgeIterationRule
  intro s hrst hnudge
  have hstep : perform .iterate s = .next (nudgeIter s.pins.timeUs s) :=
    (perform_of_running _ hrst).trans (congrArg _ (iterate_hdNudge hnudge))
  refine ⟨_, rateOf_positive s.cfg.rateBrake, ?_⟩
  split_ifs with hquota
  · rw [hstep, nudgeIter, if_pos hquota, goto_brake]
  · rw [hstep, nudgeIter, if_neg hquota]

/-! ### The iterations of `HD_WATCH` -/

theorem iterate_hdWatch {s : State} (hwatch : s.seq = .hdWatch) : iterate s = watchIter s.pins.timeUs s := by
  rw [iterate, iterateAt, hwatch]

/-- Out of reset the Control agent's step in `HD_WATCH` is `watch_iter` at the sampled time (R128). -/
theorem perform_iterate_hdWatch {s : State} (hrst : s.pins.rstN = true) (hwatch : s.seq = .hdWatch) :
    perform .iterate s = .next (watchIter s.pins.timeUs s) :=
  (perform_of_running _ hrst).trans (congrArg _ (iterate_hdWatch hwatch))

/-- The duration of the hold is over (R238). -/
def HoldOver (now : Stamp) (s : State) : Prop := s.hold.hDur.toNat ≤ dt64 now s.holdRun.hStart

/-- The count exceeds the deadband and the gap since the last nudge has elapsed (R234). -/
def Slipped (now : Stamp) (s : State) : Prop :=
  s.hold.hDb.toNat < s.pulse.pcnt.toNat ∧ s.hold.hGap.toNat ≤ dt64 now s.holdRun.nLast

section
variable {now : Stamp} {s : State}

theorem watchIter_of_over (h : HoldOver now s) : watchIter now s = complete true s := if_pos h

theorem watchIter_of_slipped (h : ¬ HoldOver now s) (hslip : Slipped now s) :
    watchIter now s = startNudge (update now s) := (if_neg h).trans (if_pos hslip)

theorem watchIter_of_still (h : ¬ HoldOver now s) (hstill : ¬ Slipped now s) : watchIter now s = update now s :=
  (if_neg h).trans (if_neg hstill)

end

/-- The start of a nudge as one record update, the latched nudge speed being in range (R235). -/
theorem startNudge_eq {s : State} (hspeed : s.hold.hNspd.toNat ≤ Config.fullScale) :
    startNudge s = { s with
      seq := .hdNudge
      dir := s.hold.hDir
      ctrl := { s.ctrl with fgEn := true }
      pulse := { s.pulse with pcnt := 0 }
      slew := { s.slew with slTarget := s.hold.hNspd, slRate := rateOf s.cfg.rateRun }
      holdRun := { s.holdRun with nudgeCnt := satInc s.holdRun.nudgeCnt } } := by
  rw [startNudge, setTarget, speedOf_of_le _ hspeed]
  rfl

/-- Settles O35: the duration decides first, then the slip, whose nudge starts from the updated state. -/
theorem watchIterationRule : Obligations.WatchIterationRule := by
  unfold Obligations.WatchIterationRule
  rintro s u hrst hwatch hspeed rfl
  have hstep : perform .iterate s = .next (watchIter s.pins.timeUs s) := perform_iterate_hdWatch hrst hwatch
  refine ⟨rateOf s.cfg.rateRun, satInc s.holdRun.nudgeCnt, rateOf_positive _, satInc_value _, ?_⟩
  split_ifs with hover hslip
  · rw [hstep, watchIter_of_over hover, complete]
  · rw [hstep, watchIter_of_slipped hover hslip, startNudge_eq (s := update s.pins.timeUs s) hspeed]
    rfl
  · rw [hstep, watchIter_of_still hover hslip]

/-! ### The end of a hold session -/

/-- Of the iteration rows of R130 the one that leaves a hold session goes from `HD_WATCH` to `IDLE`. -/
theorem leavesHold {p q : Seq} (hp : inHold p = true) (hq : inHold q = false) (hgo : iterationMayGo p q = true) :
    p = .hdWatch ∧ q = .idle := by
  cases p with
  | hdSettle | hdNudge | hdNudgeStop =>
    simp only [iterationMayGo, Bool.or_eq_true, beq_iff_eq] at hgo
    rcases hgo with rfl | rfl <;> cases hq
  | hdWatch =>
    simp only [iterationMayGo, Bool.or_eq_true, beq_iff_eq] at hgo
    rcases hgo with (rfl | rfl) | rfl
    · cases hq
    · cases hq
    · exact ⟨rfl, rfl⟩
  | idle | mvRun | mvStopOk | mvStopFail | brkSettle => cases hp

/-- A watch iteration that ends in `IDLE` is the completion with success (R233, R238). -/
theorem watchIter_eq_complete {now : Stamp} {s : State} (hwatch : s.seq = .hdWatch)
    (hidle : (watchIter now s).seq = .idle) : watchIter now s = complete true s := by
  rcases watchIter_cases now s with ⟨-, e⟩ | ⟨-, -, -, e⟩ | ⟨-, -, e⟩
  · exact e
  · rw [e] at hidle
    cases hidle
  · rw [e, update_seq, hwatch] at hidle
    cases hidle

/-- Settles O39: the table leaves only the completion of the watch, and a legal hold under way has no cause recorded. -/
theorem holdAlwaysReportsSuccess : Obligations.HoldAlwaysReportsSuccess := by
  unfold Obligations.HoldAlwaysReportsSuccess
  intro s t hinv hrst hhold hstep hleft
  obtain rfl : iterate s = t := Host.Outcome.next.inj ((perform_of_running _ hrst).symm.trans hstep)
  obtain ⟨hwatch, hidle⟩ := leavesHold hhold hleft (iterate_followsTable s)
  have hcause : s.flags.cause = .none := (underway_of_running hinv.flags hwatch).cause
  rw [iterate_hdWatch hwatch] at hidle ⊢
  rw [watchIter_eq_complete hwatch hidle]
  exact ⟨rfl, rfl, rfl, hcause⟩

end Sys2Proof.Proofs
end

section
/-! PROOFS. The exceptions (spec/60_exceptions.md): every step answers a next state (R260), an edge event at the target comes
before the failures of its cycle (R265), and the failure entry (R266). -/

open Sys2Proof.Machine Sys2Proof.Statements

namespace Sys2Proof.Proofs

/-! ### No fault and no refusal by the model -/

/-- Out of reset every input answers a next state: only a host access and a clock edge can depend on another answer. -/
theorem performRunning_next (e : Input) (s : State) : ∃ t, performRunning e s = .next t := by
  cases e with
  | time now => exact ⟨_, rfl⟩
  | fg b => exact ⟨_, rfl⟩
  | rst b => cases b <;> exact ⟨_, rfl⟩
  | edge => exact ⟨_, rfl⟩
  | iterate => exact ⟨_, rfl⟩
  | bus r => exact busAccess_next r s
  | clk r =>
    obtain ⟨u, -, hclk⟩ := clkEdge_cases r s
    exact ⟨_, hclk⟩

/-- Settles O7: the next input is performed in reset or out of it, and answers a next state in both. -/
theorem everyStepAnswersNext : Obligations.EveryStepAnswersNext := by
  unfold Obligations.EveryStepAnswersNext
  intro s
  rcases perform_cases (nextInput s) (dropInput s) with ⟨-, hreset⟩ | ⟨-, hrunning⟩
  · exact ⟨_, hreset⟩
  · obtain ⟨t, ht⟩ := performRunning_next (nextInput s) (dropInput s)
    exact ⟨t, hrunning.trans ht⟩

/-! ### The failure entry -/

/-- Settles O31: the failure entry as one record update, with its rate. -/
theorem failureEntrySavesTheCause : Obligations.FailureEntrySavesTheCause := by
  unfold Obligations.FailureEntrySavesTheCause
  exact fun c s => ⟨_, rateOf_positive s.cfg.rateBrake, raiseFailure_eq c s⟩

/-! ### An edge event at the target -/

/-- With the count at the target the iteration of `MV_RUN` brakes and goes to `MV_STOP_OK`; it looks at neither the stall window
nor the timeout (R198). -/
theorem iterate_of_targetReached {s : State} (hrun : s.seq = .mvRun) (hreached : s.move.pTarget.toNat ≤ s.pulse.pcnt.toNat) :
    iterate s = goto .mvStopOk (brake s) := by
  rw [iterate, iterateAt, hrun]
  exact if_pos hreached

/-- A rise one below the target leaves the count at the target and changes nothing else; a target is a 32-bit word, so the count
does not saturate on the way (R141, R144). -/
theorem detected_at_target {s : State} (hrise : edgeDetected s.hidden = true) (hen : s.ctrl.fgEn = true)
    (hnext : s.pulse.pcnt.toNat + 1 = s.move.pTarget.toNat) :
    detected s = { s with pulse := { s.pulse with pcnt := s.move.pTarget } } := by
  have hcount : satInc s.pulse.pcnt = s.move.pTarget := by
    have hinc := satInc_value s.pulse.pcnt
    have htarget := s.move.pTarget.isLt
    simp only [Config.counterMax] at hinc
    exact BitVec.eq_of_toNat_eq (by omega)
  rw [detected, if_pos hrise, increment_of_enabled hen, hcount]

/-- Settles O56: the iteration runs on the state the edge event left (R70), which has the count at the target. -/
theorem edgeAtTheTargetWins : Obligations.EdgeAtTheTargetWins := by
  unfold Obligations.EdgeAtTheTargetWins
  intro s hrst hrun hen hs2 hprev hnext
  have hdetected := detected_at_target ((edgeDetected_iff _).2 ⟨hs2, hprev⟩) hen hnext
  have hagents : cycleAgents none s = .next (goto .mvStopOk (brake (detected s))) := by
    rw [← iterate_of_targetReached (s := detected s) (by rw [hdetected]; exact hrun) (by rw [hdetected])]
    exact cycleAgents_none s
  rw [hdetected, goto_brake] at hagents
  exact ⟨_, (perform_of_running _ hrst).trans (clkEdge_next none s _ hagents), rfl, rfl, rfl, rfl, rfl⟩

end Sys2Proof.Proofs
end

section
/-! PROOFS. Reset and hazards (spec/70_reset_and_hazards.md): what holds while `rst_n` is low (R290, R291), a host access while an
operation runs (R293, R301), and a nudge that waits for edge events (R306). -/

open Sys2Proof.Machine Sys2Proof.Statements

namespace Sys2Proof.Proofs

/-! ### Held in reset -/

theorem perform_of_inReset (e : Input) {s : State} (hrst : s.pins.rstN = false) :
    perform e s = .next (performInReset e s) := by
  simp [perform, hrst]

theorem hardwareOf_inReset (s : State) : hardwareOf (inReset s) = hardwareOf State.reset := rfl

/-- A read sees the elements of the WMC only, not the environment's or the model's own fields (R63). -/
theorem memRead_hardwareOf (off : Offset) (s : State) : memRead off (hardwareOf s) = memRead off s := rfl

theorem memRead_inReset (off : Offset) (s : State) : memRead off (inReset s) = memRead off State.reset := by
  rw [← memRead_hardwareOf, hardwareOf_inReset, memRead_hardwareOf]

/-- Settles O54: every input leaves a state that reset holds, and a read is a read of one. -/
theorem resetHoldsWhileAsserted : Obligations.ResetHoldsWhileAsserted := by
  unfold Obligations.ResetHoldsWhileAsserted
  intro s e hrst
  refine ⟨?_, fun off => ⟨_, perform_of_inReset _ hrst, memRead_inReset off s⟩⟩
  obtain ⟨u, hu⟩ := performInReset_eq_inReset e s
  exact ⟨_, perform_of_inReset e hrst, hu ▸ hardwareOf_inReset u⟩

/-! ### A host access while an operation runs -/

/-- What no host access changes while an operation runs: all but the live configuration, `CTRL`, the operands, the stall table,
the two error bits and the model's fields of the access (R23, R301). -/
structure OperationKept (s t : State) : Prop where
  seq : t.seq = s.seq
  move : t.move = s.move
  moveRun : t.moveRun = s.moveRun
  hold : t.hold = s.hold
  holdRun : t.holdRun = s.holdRun
  slew : t.slew = s.slew
  dir : t.dir = s.dir
  pulse : t.pulse = s.pulse
  done : t.flags.done = s.flags.done
  result : t.flags.result = s.flags.result
  cause : t.flags.cause = s.flags.cause
  pins : t.pins = s.pins
  script : t.script = s.script

theorem refuse_operationKept (c : ErrCode) (s : State) : OperationKept s (refuse c s) := by
  constructor <;> rfl

theorem writeReg_operationKept (r : BusReg) (v : Word) (s : State) : OperationKept s (writeReg r v s) := by
  obtain ⟨hseq, hdir, hpulse, hslew, hmove, hrun, hhold, hholdRun, -, hpins, hscript, hdone, hresult, hcause⟩ :=
    writeReg_frame r v s
  exact ⟨hseq, hmove, hrun, hhold, hholdRun, hslew, hdir, hpulse, hdone, hresult, hcause, hpins, hscript⟩

/-- The new data on `bus_rdata` and the use of a free value are no part of an operation. -/
theorem access_operationKept (d : Word) (n : Nat) (s : State) :
    OperationKept s { s with busRdata := d, freeCount := n } := by
  constructor <;> rfl

/-- Outside `IDLE` a write accepts no command, so it refuses a word, stores a register or does nothing (R98, R64). -/
theorem memWrite_operationKept {off : Offset} {v : Word} {s t : State} (hbusy : s.seq ≠ .idle)
    (ht : memWrite off v s = .next t) : OperationKept s t := by
  rcases memWrite_cases off v s with ⟨i, -, hidle, -⟩ | ⟨c, -, e⟩ | ⟨r, -, e⟩ | e
  · exact absurd hidle hbusy
  all_goals obtain rfl := Host.Outcome.next.inj (e.symm.trans ht)
  · exact refuse_operationKept c s
  · exact writeReg_operationKept r v s
  · exact access_operationKept s.busRdata s.freeCount s

theorem busAccess_operationKept {r : BusReq} {s t : State} (hbusy : s.seq ≠ .idle) (ht : busAccess r s = .next t) :
    OperationKept s t := by
  rcases busAccess_cases r s with ⟨d, n, e⟩ | ⟨off, v, d, n, e⟩
  · obtain rfl := Host.Outcome.next.inj (e.symm.trans ht)
    exact access_operationKept d n s
  · have hwrite := memWrite_operationKept (s := { s with busRdata := d, freeCount := n }) hbusy (e.symm.trans ht)
    exact { hwrite with }

/-- Settles O40: the access answers a next state, and outside `IDLE` that state keeps the operation. -/
theorem hostCannotDisturbAnOperation : Obligations.HostCannotDisturbAnOperation := by
  unfold Obligations.HostCannotDisturbAnOperation
  intro s r hbusy
  obtain ⟨t, ht⟩ := busAccess_next r s
  have hkept := busAccess_operationKept hbusy ht
  exact ⟨t, ht, hkept.seq, hkept.move, hkept.moveRun, hkept.hold, hkept.holdRun, hkept.slew, hkept.dir, hkept.pulse,
    hkept.done, hkept.result, hkept.cause⟩

/-! ### A nudge that waits

The strengthened invariant of R306: an input that delivers no edge event leaves everything the wait depends on (the reset line,
the sequencer, the count, the latched quota) as it was, and `DONE` and the inputs still to come with it. -/

/-- What an input that delivers no edge event keeps of a waiting nudge. -/
structure WaitKept (s t : State) : Prop where
  rstN : t.pins.rstN = s.pins.rstN
  seq : t.seq = s.seq
  pulse : t.pulse = s.pulse
  hold : t.hold = s.hold
  done : t.flags.done = s.flags.done
  script : t.script = s.script

theorem WaitKept.refl (s : State) : WaitKept s s := ⟨rfl, rfl, rfl, rfl, rfl, rfl⟩

theorem WaitKept.trans {s t u : State} (h : WaitKept s t) (h' : WaitKept t u) : WaitKept s u where
  rstN := h'.rstN.trans h.rstN
  seq := h'.seq.trans h.seq
  pulse := h'.pulse.trans h.pulse
  hold := h'.hold.trans h.hold
  done := h'.done.trans h.done
  script := h'.script.trans h.script

theorem WaitKept.of_operationKept {s t : State} (h : OperationKept s t) : WaitKept s t :=
  ⟨congrArg Pins.rstN h.pins, h.seq, h.pulse, h.hold, h.done, h.script⟩

theorem nudgeWaits_of_kept {s t : State} (h : NudgeWaits s) (hkept : WaitKept s t) : NudgeWaits t := by
  obtain ⟨hrst, hnudge, hquota⟩ := h
  refine ⟨hkept.rstN.trans hrst, hkept.seq.trans hnudge, ?_⟩
  rwa [hkept.pulse, hkept.hold]

theorem update_waitKept (now : Stamp) (s : State) : WaitKept s (update now s) := by
  constructor <;> rfl

/-- With the quota not met the iteration of `HD_NUDGE` is one update (R236). -/
theorem iterate_waitKept {s : State} (h : NudgeWaits s) : WaitKept s (iterate s) := by
  obtain ⟨-, hnudge, hquota⟩ := h
  rw [iterate_hdNudge hnudge]
  rcases nudgeIter_cases s.pins.timeUs s with ⟨hmet, -⟩ | ⟨-, e⟩
  · omega
  · exact e ▸ update_waitKept _ s

theorem busAccess_waitKept {r : BusReq} {s t : State} (h : NudgeWaits s) (ht : busAccess r s = .next t) :
    WaitKept s t := by
  obtain ⟨-, hnudge, -⟩ := h
  exact .of_operationKept (busAccess_operationKept (by simp [hnudge]) ht)

/-- A clock edge with no rise in the detector is the host's access, if there is one, and the iteration (R70). -/
theorem clkEdge_waitKept (r : Option BusReq) {s : State} (h : NudgeWaits s) (hquiet : edgeDetected s.hidden = false) :
    ∃ t, clkEdge r s = .next t ∧ WaitKept s t := by
  obtain ⟨u, hu, hclk⟩ := clkEdge_cases r s
  rw [detected_of_no_rise hquiet] at hu
  have haccess : WaitKept s u := by
    rcases hu with rfl | ⟨q, hq⟩
    · exact .refl u
    · exact busAccess_waitKept h hq
  have hiterate : WaitKept s (iterate u) := haccess.trans (iterate_waitKept (nudgeWaits_of_kept h haccess))
  exact ⟨_, hclk, { hiterate with }⟩

theorem no_rise_of_deliversNoEdge {r : Option BusReq} {s : State} (h : DeliversNoEdge s (.clk r)) :
    edgeDetected s.hidden = false :=
  Bool.eq_false_iff.2 fun hrise => h ((edgeDetected_iff _).1 hrise)

/-- Every input that delivers no edge event and no reset keeps a waiting nudge waiting (R306). -/
theorem perform_waitKept {e : Input} {s : State} (h : NudgeWaits s) (he : DeliversNoEdge s e) :
    ∃ t, perform e s = .next t ∧ WaitKept s t := by
  have ⟨hrst, _⟩ := h
  rw [perform_of_running e hrst]
  cases e with
  | time now => exact ⟨_, rfl, by constructor <;> rfl⟩
  | fg b => exact ⟨_, rfl, by constructor <;> rfl⟩
  | rst b =>
    obtain rfl : b = true := he
    exact ⟨s, rfl, .refl s⟩
  | edge => exact he.elim
  | iterate => exact ⟨_, rfl, iterate_waitKept h⟩
  | bus r =>
    obtain ⟨t, ht⟩ := busAccess_next r s
    exact ⟨t, ht, busAccess_waitKept h ht⟩
  | clk r => exact clkEdge_waitKept r h (no_rise_of_deliversNoEdge he)

/-- Settles O38: taking the input off the script changes nothing of the wait, and performing it keeps it. -/
theorem edgelessStepsKeepTheNudge : Obligations.EdgelessStepsKeepTheNudge := by
  unfold Obligations.EdgelessStepsKeepTheNudge
  intro s t hwaits hquiet hstep
  have hdropped : NudgeWaits (dropInput s) := hwaits
  obtain ⟨u, hu, hkept⟩ := perform_waitKept hdropped (e := nextInput s) hquiet
  obtain rfl := Host.Outcome.next.inj (hu.symm.trans hstep)
  exact nudgeWaits_of_kept hdropped hkept

/-! ### Runs without edge events -/

theorem deliversNoEdge_of_bringsNoEdge {e : Input} (h : BringsNoEdge e) (s : State) : DeliversNoEdge s e := by
  cases e with
  | time now => trivial
  | fg b => trivial
  | rst b => exact h
  | edge => exact h
  | bus r => trivial
  | iterate => trivial
  | clk r => exact h.elim

/-- A run over the whole script, by induction on it: each input leaves the nudge waiting with the rest of the script to come. -/
theorem run_waits {es : List Input} {s : State} (hscript : s.script = es) (h : NudgeWaits s)
    (hes : ∀ e ∈ es, BringsNoEdge e) :
    ∃ t, Sys2Proof.core.run es.length s = .next t ∧ t.seq = .hdNudge ∧ t.pulse = s.pulse ∧
      t.flags.done = s.flags.done := by
  induction es generalizing s with
  | nil =>
    obtain ⟨-, hnudge, -⟩ := h
    exact ⟨s, rfl, hnudge, rfl, rfl⟩
  | cons e es ih =>
    obtain ⟨he, hrest⟩ := List.forall_mem_cons.1 hes
    have hpopped : NudgeWaits { s with script := es } := h
    obtain ⟨t, ht, hkept⟩ := perform_waitKept hpopped (deliversNoEdge_of_bringsNoEdge he _)
    obtain ⟨u, hu, hnudge, hpulse, hdone⟩ := ih hkept.script (nudgeWaits_of_kept hpopped hkept) hrest
    have hstep : step s = .next t := (step_of_cons s e es hscript).trans ht
    exact ⟨u, (run_succ Sys2Proof.core es.length s t hstep).trans hu, hnudge, hpulse.trans hkept.pulse,
      hdone.trans hkept.done⟩

/-- Settles O37: the nudge with the given inputs to come waits, and so does every run over them. -/
theorem nudgeWaitNeedsEdges : Obligations.NudgeWaitNeedsEdges := by
  unfold Obligations.NudgeWaitNeedsEdges
  intro es s hrst hnudge hquota hes
  have hwaits : NudgeWaits { s with script := es } := ⟨hrst, hnudge, hquota⟩
  obtain ⟨t, hrun, htnudge, hpulse, hdone⟩ := run_waits rfl hwaits hes
  exact ⟨t, hrun, htnudge, congrArg Pulse.pcnt hpulse, hdone⟩

end Sys2Proof.Proofs
end
